-- ==== Sys2Proof/Word.lean ====
section
/-! DEFINITION. The word types of the W361: bytes of the links and of the pit bus, the wrapping and
saturating counters of stated width, the 16-bit sets, and the top of the show time base. -/

namespace Sys2Proof

/-- A byte on a link, on the pit bus or of the store image. -/
abbrev Byte := BitVec 8

/-- A 32-bit counter; it wraps unless its rule says it saturates (00_scope, Names). -/
abbrev Count32 := BitVec 32

/-- A 16-bit counter. -/
abbrev Count16 := BitVec 16

/-- A set of lanes, feeds, conditions or notice kinds: bit n for number n (R184). -/
abbrev Mask := BitVec 16

/-- The largest value of the 48-bit show time base (R1). -/
def timeMax : Nat := 281474976710655

end Sys2Proof
end

