-- ==== Sys2Proof/Config.lean ====
section
/-! DEFINITION. The fixed numbers of the manual, by the rule that gives each, and the free values: what
the manual leaves open, as opaque constants nothing can evaluate. -/

namespace Sys2Proof.Config

/-- COUNT's shortest accepted lead before the start time (R9). -/
def countLeadMin : Nat := 50000
/-- COUNT's longest accepted lead before the start time (R9). -/
def countLeadMax : Nat := 10000000
/-- The least period any bounds may hold (R20, R42). -/
def periodMin : Nat := 200000
/-- The largest period any bounds may hold (R20, R42). -/
def periodMax : Nat := 2000000
/-- Nearness of a pending beat within which its correction is held (R54, Guard). -/
def phaseGuard : Nat := 2000
/-- Consecutive matched beats that end FLYWHEEL (R57). -/
def reacquireBeats : Nat := 2
/-- Entries of one dispatch queue (R79). -/
def queueMax : Nat := 8
/-- The send window of R86. -/
def sendWindow : Nat := 100000
/-- From an APPLY's send time to its ACK deadline (R88), and a solicited reply window (R104). -/
def replyWindow : Nat := 2000
/-- A probe's reply window (R104). -/
def probeWindow : Nat := 4000
/-- From the effective land to the done deadline (R88). -/
def doneGrace : Nat := 50000
/-- Reports the inbound report queue holds (R112). -/
def reportMax : Nat := 16
/-- Quiet time after an exchange before the bus is free (R104). -/
def busQuiet : Nat := 20
/-- The largest station lead (R113, R115). -/
def leadMax : Nat := 200000
/-- The largest round trip of a sample that is kept (R120). -/
def roundTripMax : Nat := 2000
/-- Probe cadence in JOINING (R119). -/
def probeJoining : Nat := 10000
/-- Probe cadence in READY and SUSPECT (R119). -/
def probeReady : Nat := 250000
/-- Recovery poll cadence (R117, R118). -/
def pollCadence : Nat := 1000000
/-- The largest effective offset of a lane (R129). -/
def offsetMax : Nat := 80000
/-- Clicks one lane's schedule holds (R133). -/
def scheduleMax : Nat := 24
/-- Length of a click burst (R134). -/
def burstLength : Nat := 10000
/-- The shortest interval between two frame starts of a camera (R138). -/
def framePeriodMin : Nat := 10000
/-- The longest interval taken as a measured frame period (R138). -/
def framePeriodMax : Nat := 50000
/-- The cut deadline of a camera with no measured period (R138). -/
def cutDefault : Nat := 150000
/-- The hold period when no camera gives one (R144). -/
def holdDefault : Nat := 20000
/-- The largest latency sample (R150). -/
def latencyMax : Nat := 200000
/-- Entries of the panic list (R148). -/
def panicMax : Nat := 8
/-- Time a stop line must hold a new level (R154). -/
def lineHold : Nat := 2000
/-- Responses one link's queue holds (R171). -/
def responseMax : Nat := 8
/-- Notices one link's queue holds (R171). -/
def noticeMax : Nat := 16
/-- Bytes an assembly run may hold (R175). -/
def runMax : Nat := 2048
/-- Payload bytes of one link frame (R184). -/
def frameMax : Nat := 240
/-- Time of one byte on a master link (R172). -/
def linkByte : Nat := 10
/-- Segment records of the shared pool (R24). -/
def segmentPool : Nat := 1024
/-- Cue entries of the cue table (R60). -/
def cueMax : Nat := 512
/-- Actions of the shared pool (R61). -/
def actionPool : Nat := 2048
/-- Time from one click output frame to the next (R134). -/
def clickFramePeriod : Nat := 125
/-- Length of one background pass (R191). -/
def passLength : Nat := 200000

/-- FREE VALUE (log entry 3): which of the events waiting at one moment is taken first; the manual gives
no order between two blocks' events of one due time (R2). -/
opaque dueChoice : Nat → Nat

/-- FREE VALUE (log entry 4): how many bytes the background pass in progress has read since its beginning, or
since the storage fault before; the manual does not say when within the pass each byte is read (R191). -/
opaque passProgress : Nat → Nat

/-- FREE VALUE (log entry 5): the time that stands for the next grid beat time where a rule reads it
while the TMU holds none (R84, R85 at an event the PDU takes after the TMU entered IDLE). -/
opaque freeBeatTime : Nat → Nat

end Sys2Proof.Config
end

