-- ==== Sys2Proof/Syntax.lean ====
section
/-! DEFINITION. The commands of the W361: one constructor of `Instr` for each row of
spec/opcode_table.json, in the table's order, with the row's operands. A request carries the link it
arrived on and the payload bytes of its (last) frame; an event carries what its line or bus shows. -/

namespace Sys2Proof

/-- The three master links. -/
inductive Link
  | stage | podium | rig
  deriving DecidableEq, Repr, Inhabited

/-- A conductor position; also names its beat input and its camera. -/
inductive Podium
  | a | b
  deriving DecidableEq, Repr, Inhabited

/-- The two stop lines (R154). -/
inductive StopLine
  | stage | podium
  deriving DecidableEq, Repr, Inhabited

/-- A station's report and its content (R112, R185). -/
inductive Report
  | done (layer patch : Nat)
  | fault (layer patch : Nat)
  | panic (player : Nat)
  | join (lead : Nat)
  deriving DecidableEq, Repr, Inhabited

/-- A part of the store image (R188), as a storage fault names the record it strikes. -/
inductive StorePart
  | song (n : Nat)
  | pattern (n : Nat)
  | cueCount
  | cue (id : Nat)
  | roster
  | lane (n : Nat)
  | feed (n : Nat)
  deriving DecidableEq, Repr, Inhabited

/-- The commands: the rows of spec/opcode_table.json. -/
inductive Instr
  -- requests of the master links (R178, R186)
  | go (l : Link) (p : List Byte)
  | standby (l : Link) (p : List Byte)
  | release (l : Link) (p : List Byte)
  | arm (l : Link) (p : List Byte)
  | stop (l : Link) (p : List Byte)
  | count (l : Link) (p : List Byte)
  | restartAt (l : Link) (p : List Byte)
  | vampExit (l : Link) (p : List Byte)
  | tempo (l : Link) (p : List Byte)
  | handover (l : Link) (p : List Byte)
  | ackPanic (l : Link) (p : List Byte)
  | ackPanicAll (l : Link) (p : List Byte)
  | writeSong (l : Link) (p : List Byte)
  | deleteSong (l : Link) (p : List Byte)
  | writePattern (l : Link) (p : List Byte)
  | writeCue (l : Link) (p : List Byte)
  | deleteCue (l : Link) (p : List Byte)
  | writeRoster (l : Link) (p : List Byte)
  | writeLaneBase (l : Link) (p : List Byte)
  | writeFeedBase (l : Link) (p : List Byte)
  | seal (l : Link) (p : List Byte)
  | lock (l : Link) (p : List Byte)
  | unlock (l : Link) (p : List Byte)
  | resetShow (l : Link) (p : List Byte)
  | reboot (l : Link) (p : List Byte)
  | setEstimator (l : Link) (p : List Byte)
  | setDispatch (l : Link) (p : List Byte)
  | setProbe (l : Link) (p : List Byte)
  | setFeedMeasure (l : Link) (p : List Byte)
  | setLane (l : Link) (p : List Byte)
  | setFeed (l : Link) (p : List Byte)
  | clearStatus (l : Link) (p : List Byte)
  | setMasks (l : Link) (p : List Byte)
  | forceE (l : Link) (p : List Byte)
  | forceW (l : Link) (p : List Byte)
  | readShow (l : Link) (p : List Byte)
  | readStop (l : Link) (p : List Byte)
  | readSong (l : Link) (p : List Byte)
  | readPattern (l : Link) (p : List Byte)
  | readStoreSpace (l : Link) (p : List Byte)
  | readCue (l : Link) (p : List Byte)
  | readCues (l : Link) (p : List Byte)
  | readRoster (l : Link) (p : List Byte)
  | readLaneBase (l : Link) (p : List Byte)
  | readFeedBase (l : Link) (p : List Byte)
  | readTempo (l : Link) (p : List Byte)
  | readEstimator (l : Link) (p : List Byte)
  | readCaptureLog (l : Link) (p : List Byte)
  | readDispatch (l : Link) (p : List Byte)
  | readStation (l : Link) (p : List Byte)
  | readBus (l : Link) (p : List Byte)
  | readLane (l : Link) (p : List Byte)
  | readLanes (l : Link) (p : List Byte)
  | readVideo (l : Link) (p : List Byte)
  | readStatus (l : Link) (p : List Byte)
  | readSeal (l : Link) (p : List Byte)
  -- frames and lines of the master links (R172 to R177, R183)
  | unknownRequest (l : Link) (code : Byte) (p : List Byte)
  | runFrame (l : Link) (code : Byte) (p : List Byte)
  | badFrame (l : Link)
  | frameGapTimeout (l : Link)
  | framingErrorJudge (l : Link)
  | linkBreak (l : Link)
  | responseSend (l : Link)
  | noticeSend (l : Link)
  -- start-up (R193) and the first frame of the bus (R109)
  | powerOn
  | resetPin
  | rebootTakesEffect
  | broadcastPoll
  -- the beat inputs and the grid (R36 to R57) and the blocks that take a delivered grid beat (R33)
  | beatEdge (line : Podium)
  | gridBeat
  | missCheck
  | positionalFiring
  | landRecompute
  -- the pit bus (R103 to R121); `rivals` are the stations whose attentions begin in the same bit time
  | entrySendable (station : Nat) (rivals : List Nat)
  | busFree (rivals : List Nat)
  | probeDue (station : Nat) (rivals : List Nat)
  | recoveryPollDue (station : Nat) (rivals : List Nat)
  | ack (station tally : Nat)
  | nak (station tally : Nat)
  | probeReply (station tally t2 t3 t4 : Nat)
  | pollReply (station tally : Nat) (report : Option Report)
  | noReply
  | attention (station tally : Nat) (report : Report)
  | damagedFrame
  | unexpectedFrame
  | doneReport
  | faultReport
  | panicReport
  | joinReport
  | doneDeadline (station : Nat)
  -- the click lanes (R130 to R134)
  | clickSchedule
  | clickSound (lane : Nat)
  | burstEnd (lane : Nat)
  -- the cameras and feeds (R138 to R151)
  | beatFlash
  | cameraFrameStart (cam : Podium)
  | cameraCut (cam : Podium)
  | feedFrame (feed : Nat)
  | feedEcho (feed : Nat)
  -- the stop lines (R154) and the blocks that take the HOLD hand-over (R158)
  | lineChange (line : StopLine) (active : Bool)
  | lineSettle (line : StopLine)
  | tmuHoldEntry
  | cluHoldEntry
  | pduHoldEntry
  | cueHoldEntry
  | vuHoldEntry
  -- the store's background check (R191)
  | backgroundPassEnd
  | storageFault (part : StorePart) (offset : Nat) (value : Byte)
  -- the rest of the table
  | byteInHunt (l : Link) (b : Byte)
  | discardingRunFrame (l : Link) (code : Byte) (last : Bool)
  | heldInReset
  | tmuShowReset
  | cueShowReset
  | pduShowReset
  | vuShowReset
  | showTimeBaseSaturates
  deriving DecidableEq, Repr, Inhabited

end Sys2Proof
end

