-- ==== Sys2Proof/Machine/State.lean ====
section
/-! DEFINITION. The state of the W361, block by block as 00_scope.md's table of functional blocks gives it,
the reasons a step can stop, and the state after reset. All of it is plain data. -/

namespace Sys2Proof.Machine

/-! ## Show Control Unit (R1 to R18, R153, R154) -/

/-- The show states (R3 to R16). -/
inductive ShowState
  | dark | preparing | armed | countIn | running | hold
  deriving DecidableEq, Repr, Inhabited

/-- The held-from state recorded at HOLD entry (R16, R157). -/
inductive HeldFrom
  | dark | song
  deriving DecidableEq, Repr, Inhabited

/-- The origins of a stop (R153). -/
inductive Origin
  | stageLink | podiumLink | stageLine | podiumLine
  deriving DecidableEq, Repr, Inhabited

/-- How HOLD was left (R153). -/
inductive StopExit
  | preparing | dark | resetShow
  deriving DecidableEq, Repr, Inhabited

/-- The song, bar, beat and segment of a position; they are none together (R3). -/
structure Place where
  song : Nat
  bar : Int
  beat : Nat
  segment : Nat
  deriving DecidableEq, Repr, Inhabited

/-- The position record (R3). -/
structure Position where
  place : Option Place := none
  pass : Nat := 1
  exitArmed : Bool := false
  countBars : Nat := 0
  deriving DecidableEq, Repr, Inhabited

/-- A restart point: song, bar and optional tempo in BPM (R153). -/
structure Restart where
  song : Nat
  bar : Nat
  tempo : Option Nat
  deriving DecidableEq, Repr, Inhabited

/-- The stop set: each origin at most once (R153). -/
structure StopSet where
  stageLink : Bool := false
  podiumLink : Bool := false
  stageLine : Bool := false
  podiumLine : Bool := false
  deriving DecidableEq, Repr, Inhabited

/-- The stop record of the last entry to HOLD (R153). -/
structure StopRecord where
  stopId : Nat
  first : Origin
  heldFrom : HeldFrom
  entryTime : Nat
  position : Position
  takenFrom : ShowState
  exit : Option (StopExit × Nat)
  deriving DecidableEq, Repr, Inhabited

/-- A stop line: the level its pin shows, its recorded level, its pending change and its glitch counter
(R154, R168). -/
structure LineRecord where
  pin : Bool := false
  level : Bool := false
  since : Option Nat := none
  glitches : Count16 := 0
  deriving DecidableEq, Repr, Inhabited

/-- The Show Control Unit. `changesHanded` is the count of patch changes that the CUE returned with the end
of the last resolution (R76; log entry 10). -/
structure Scu where
  showState : ShowState := .dark
  position : Position := default
  armed : Option (Nat × Nat) := none
  stopSet : StopSet := default
  stageClear : Bool := false
  restart : Option Restart := none
  stopRecord : Option StopRecord := none
  stopId : Nat := 0
  stageLine : LineRecord := default
  podiumLine : LineRecord := default
  lamp : Bool := false
  holdEntries : Count32 := 0
  stageLinkStops : Count16 := 0
  podiumLinkStops : Count16 := 0
  stageLineStops : Count16 := 0
  podiumLineStops : Count16 := 0
  exitsPreparing : Count16 := 0
  exitsDark : Count16 := 0
  refusedRestarts : Count16 := 0
  changesHanded : Nat := 0
  deriving DecidableEq, Repr, Inhabited

/-- A grid beat event as the SCU delivers it to the CLU, CUE, PDU and VU (R33, R47). -/
structure GridBeat where
  index : Count32
  time : Nat
  period : Nat
  showState : ShowState
  position : Position
  downbeat : Bool
  entry : Bool
  wrap : Bool
  deriving DecidableEq, Repr, Inhabited

/-- A hand-over of the SCU that a block takes as an event of its own, in the order made (R158, R194). -/
inductive HandOver
  | beat (g : GridBeat)
  | hold (stopId : Nat) (first : Origin)
  | showReset
  deriving DecidableEq, Repr, Inhabited

/-! ## Tempo Unit (R36 to R59) -/

/-- The tempo states. -/
inductive TempoState
  | idle | fixed | tracking | flywheel | linked
  deriving DecidableEq, Repr, Inhabited

/-- What the TMU did with a taken edge (R37). -/
inductive Disposition
  | accepted | doubleSplit | extra | outlier | inactive | ignoredCount
  deriving DecidableEq, Repr, Inhabited

/-- A capture log entry (R37). -/
structure LogEntry where
  stamp : Nat
  disposition : Disposition
  interval : Option Nat
  gridError : Option Int
  deriving DecidableEq, Repr, Inhabited

/-- The match mark of a grid beat (R48). -/
inductive Mark
  | opened | matched | missed
  deriving DecidableEq, Repr, Inhabited

/-- An emitted grid beat with its match mark, if it carries one, and its miss check, if one stands (R48). -/
structure EmittedBeat where
  time : Nat
  mark : Option Mark
  check : Option Nat
  deriving DecidableEq, Repr, Inhabited

/-- A podium line's capture latch, capture log and bounce counter (R36, R37). -/
structure CaptureLine where
  lastTaken : Option Nat := none
  log : List LogEntry := []
  bounces : Count16 := 0
  deriving DecidableEq, Repr, Inhabited

/-- The estimator settings and the debounce time (R58). -/
structure Estimator where
  depth : Nat := 2
  window : Nat := 16
  reseed : Nat := 3
  gain : Nat := 1
  cut : Nat := 4
  debounce : Nat := 40000
  deriving DecidableEq, Repr, Inhabited

/-- The Tempo Unit. `emitted` holds the last grid beat emitted since the grid started (its last entry)
and the earlier ones whose miss check still stands. `prior` is the last grid beat of an earlier grid, which R48 opens at
entry to TRACKING before the grid's own first beat. `atOnce` is the model's own: the next grid beat time was
set at or before now, and its beat is the TMU's next event (R2). -/
structure Tmu where
  tempo : TempoState := .idle
  p16 : Nat := 8000000
  pmin : Nat := 200000
  pmax : Nat := 2000000
  overridden : Bool := false
  waitingLink : Option Nat := none
  nextBeat : Option Nat := none
  beatIndex : Count32 := 0
  pendingMark : Option Mark := none
  emitted : List EmittedBeat := []
  prior : Option EmittedBeat := none
  prevMatched : Option Nat := none
  correction : Int := 0
  outliers : Nat := 0
  outlierIntervals : List Nat := []
  misses : Nat := 0
  reacquire : Nat := 0
  settings : Estimator := default
  active : Podium := .a
  handover : Option Podium := none
  lineA : CaptureLine := default
  lineB : CaptureLine := default
  extras : Count16 := 0
  missed : Count16 := 0
  splits : Count16 := 0
  outlierTotal : Count16 := 0
  reseeds : Count16 := 0
  hands : List HandOver := []
  atOnce : Bool := false
  deriving DecidableEq, Repr, Inhabited

/-! ## Show Store (R19 to R28, R60 to R63, R114, R124, R140, R188 to R192) -/

/-- A segment record (R20); `fixed` is the period of a FIXED segment, none for FOLLOW. -/
structure Segment where
  firstBar : Nat
  barCount : Nat
  meter : Nat
  pattern : Nat
  fixed : Option Nat
  pmin : Nat
  pmax : Nat
  vamp : Bool
  deriving DecidableEq, Repr, Inhabited

/-- An entry of an opening patch list (R19). -/
structure Opening where
  station : Nat
  layer : Nat
  patch : Nat
  deriving DecidableEq, Repr, Inhabited

/-- A song record (R19). -/
structure Song where
  number : Nat
  segments : List Segment
  countIn : Nat
  segue : Option Nat
  opening : List Opening
  deriving DecidableEq, Repr, Inhabited

/-- A click pattern slot (R21). -/
structure Pattern where
  accents : List Nat := List.replicate 12 0
  sub : Nat := 0
  deriving DecidableEq, Repr, Inhabited

/-- The land written in a PATCH action (R61). -/
inductive LandWritten
  | atCue | now | nextBeat | nextBar
  deriving DecidableEq, Repr, Inhabited

/-- A feed's source (R140). -/
inductive FeedSource
  | podium | camA | camB | black
  deriving DecidableEq, Repr, Inhabited

/-- A cue action (R61); a TEMPO action is FOLLOW with no period and FIXED with one. -/
inductive Action
  | patch (station layer patch : Nat) (land : LandWritten)
  | lane (lanes : Mask) (mute : Bool) (pattern : Option Nat)
  | feed (feeds : Mask) (source : Option FeedSource) (overlay : Option Mask)
  | vampExit
  | tempo (fixed : Option Nat)
  deriving DecidableEq, Repr, Inhabited

/-- A cue's kind with the fields of that kind (R60). -/
inductive CueKind
  | go (nominal : Nat)
  | position (bar beat lead : Nat) (everyPass : Bool)
  deriving DecidableEq, Repr, Inhabited

/-- A cue as the Rig Link writes it (R60, R62). -/
structure Cue where
  id : Nat
  song : Nat
  kind : CueKind
  actions : List Action
  deriving DecidableEq, Repr, Inhabited

/-- A cue table entry: the cue, its fired mark and its due-at-start mark (R60). -/
structure CueEntry where
  cue : Cue
  fired : Option Nat := none
  dueAtStart : Bool := false
  deriving DecidableEq, Repr, Inhabited

/-- A lane base record (R124). -/
structure LaneBase where
  subdivision : Nat := 1
  base : Nat := 0
  follow : Option Nat := none
  weak : Nat := 10
  normal : Nat := 20
  accent : Nat := 31
  deriving DecidableEq, Repr, Inhabited

/-- A feed base record (R140). -/
structure FeedBase where
  threshold : Nat := 66000
  depth : Nat := 2
  deriving DecidableEq, Repr, Inhabited

/-- The Show Store: its content, the seal record, the lock flag and the background check. `altered` holds
the bytes of a record that a storage fault struck where they can no longer be read back as a record of
the same key; `passRead` how many bytes of the image the pass in progress has certainly read, and `passMissed`
the bytes it had read before they were altered (R191; log entry 4). -/
structure Store where
  songs : List (Option Song) := List.replicate 64 none
  patterns : List Pattern := List.replicate 16 default
  cues : List CueEntry := []
  roster : List Nat := []
  laneBases : List LaneBase := List.replicate 16 default
  feedBases : List FeedBase := List.replicate 6 default
  sealedCrc : Option Nat := none
  mismatch : Bool := false
  lastFailing : Option Nat := none
  locked : Bool := false
  ready : Bool := false
  passEnd : Option Nat := none
  passRead : Nat := 0
  passMissed : List (StorePart × Nat × Byte) := []
  passes : Count32 := 0
  mismatches : Count32 := 0
  altered : List (StorePart × List Byte) := []
  deriving DecidableEq, Repr, Inhabited

/-! ## Cue Engine (R64 to R78) -/

/-- The Cue Engine's own state; the marks stand in the cue table's entries. `startDue` says that no event
has been delivered with RUNNING since the last resolution marked the due-at-start cues (R72); `changesHanded`
counts the changes the resolution in progress, or the last one, handed to the PDU (R76). -/
structure CueEngine where
  goPointer : Option Nat := none
  standby : Option Nat := none
  startDue : Bool := false
  changesHanded : Nat := 0
  goRun : Count32 := 0
  fired : Count32 := 0
  skipped : Count32 := 0
  actions : Count32 := 0
  hands : List HandOver := []
  deriving DecidableEq, Repr, Inhabited

/-! ## Patch Dispatch Unit (R79 to R101) -/

/-- What made a dispatch entry (R79). -/
inductive EntryOrigin
  | cue | resolution
  deriving DecidableEq, Repr, Inhabited

/-- The land forms of an entry (R79). -/
inductive LandForm
  | now | time | position | nextDownbeat
  deriving DecidableEq, Repr, Inhabited

/-- The states of an entry (R79, R80). -/
inductive EntryState
  | queued | sent | acked
  deriving DecidableEq, Repr, Inhabited

/-- The cue position a POSITION entry lands on (R79, R83). -/
structure LandPlace where
  song : Nat
  bar : Nat
  beat : Nat
  segment : Nat
  pass : Nat
  deriving DecidableEq, Repr, Inhabited

/-- A dispatch entry (R79), with its ACK deadline and done deadline (R88), whether it is due for resend
(R89), whether its CANCEL is offered (R96, R97), and whether a HOLD entry found it open with origin CUE, so
that it is no longer resent (R90, R96). -/
structure Entry where
  station : Nat
  layer : Nat
  patch : Nat
  origin : EntryOrigin
  form : LandForm
  landPlace : Option LandPlace
  landTime : Nat
  state : EntryState := .queued
  resends : Nat := 0
  late : Bool := false
  cancelPending : Bool := false
  cancelResends : Nat := 0
  seq : Count32
  ackDeadline : Option Nat := none
  doneDeadline : Option Nat := none
  resendDue : Bool := false
  cancelOffered : Bool := false
  held : Bool := false
  deriving DecidableEq, Repr, Inhabited

/-- The closure counters of one station (R100). -/
structure Closures where
  created : Count32 := 0
  applied : Count32 := 0
  failed : Count32 := 0
  superseded : Count32 := 0
  discarded : Count32 := 0
  refused : Count32 := 0
  late : Count32 := 0
  stray : Count32 := 0
  deriving DecidableEq, Repr, Inhabited

/-- The Patch Dispatch Unit. -/
structure Pdu where
  queues : List (List Entry) := List.replicate 14 []
  closures : List Closures := List.replicate 14 default
  outstanding : Nat := 0
  nextSeq : Count32 := 0
  resendLimit : Nat := 2
  hands : List HandOver := []
  deriving DecidableEq, Repr, Inhabited

/-! ## Pit Bus Controller (R102 to R123) -/

/-- The states of a station (R113). -/
inductive StationState
  | absent | joining | ready | suspect | cut
  deriving DecidableEq, Repr, Inhabited

/-- A station record and its counters (R107, R113, R123). -/
structure Station where
  state : StationState := .absent
  offset : Option Int := none
  delay : Nat := 0
  lead : Nat := 0
  patches : List (Option Nat) := List.replicate 8 none
  streak : Nat := 0
  goodProbes : Nat := 0
  nextProbe : Option Nat := none
  nextPoll : Option Nat := none
  lossCounter : Nat := 0
  starved : Bool := false
  lossTotal : Count32 := 0
  framesSent : Count32 := 0
  noReplies : Count16 := 0
  lateReplies : Count16 := 0
  goodTotal : Count32 := 0
  discarded : Count16 := 0
  reportsTaken : Count32 := 0
  refusedReports : Count16 := 0
  cuts : Count16 := 0
  deriving DecidableEq, Repr, Inhabited

/-- The frames the PBC sends (R185); a POLL says whether it is a recovery poll, and a timed APPLY
carries its local land time. -/
inductive OutFrame
  | apply (layer patch : Nat) (land : Option Nat)
  | cancel (layer patch : Nat)
  | probe
  | poll (recovery : Bool)
  | broadcastPoll
  | ackReport
  | nakReport
  deriving DecidableEq, Repr, Inhabited

/-- An exchange with its reply window: the station addressed, the frame, its send time and, for an APPLY
or CANCEL, the entry it is for (R104). -/
structure Exchange where
  station : Nat
  frame : OutFrame
  sendTime : Nat
  seq : Count32
  deriving DecidableEq, Repr, Inhabited

/-- The Pit Bus Controller. `exchange` is the open reply window; `lostWindows` the windows that a
discarded frame ended early, whose no reply is still to be told at their limit (R104); `attention` the station
whose header the bus carries, until its frame is taken or discarded (R103); `freeAt` when the bus is next
free; `lastFrame` the frame last driven. `atOnce` is the model's own: a probe became due at the moment its time
was set, and is the PBC's next event (R2, R115). No rule states the start-up value of `unlistedJoins`: it is 0 by the
model's choice (log entry 10). -/
structure Pbc where
  stations : List Station := List.replicate 14 default
  reports : List (Nat × Report) := []
  busErrors : Count16 := 0
  unlistedJoins : Count16 := 0
  probeDepth : Nat := 3
  exchange : Option Exchange := none
  lostWindows : List Exchange := []
  attention : Option Nat := none
  freeAt : Nat := 0
  broadcastDue : Bool := true
  lastFrame : Option (Nat × OutFrame) := none
  atOnce : Bool := false
  deriving DecidableEq, Repr, Inhabited

/-! ## Click Unit (R124 to R137) -/

/-- Which setting last set a lane's mute (R124). -/
inductive MuteSource
  | reset | live | cue
  deriving DecidableEq, Repr, Inhabited

/-- A scheduled click (R133); `beat` says BEAT or SUB. -/
structure Click where
  time : Nat
  beat : Bool
  accent : Nat
  level : Nat
  deriving DecidableEq, Repr, Inhabited

/-- A sounding burst (R134). -/
structure Burst where
  level : Nat
  accent : Nat
  endTime : Nat
  deriving DecidableEq, Repr, Inhabited

/-- The live part of a lane record and the lane's counters (R124, R137). -/
structure Lane where
  muted : Bool := true
  source : MuteSource := .reset
  trim : Int := 0
  override : Option Nat := none
  offset : Nat := 0
  clamped : Bool := false
  schedule : List Click := []
  burst : Option Burst := none
  sounded : Count32 := 0
  dropped : Count16 := 0
  clamps : Count16 := 0
  deriving DecidableEq, Repr, Inhabited

/-- The Click Unit; `frame` is the output frame that began last, a slot byte for each lane (R134). -/
structure Clu where
  lanes : List Lane := List.replicate 16 default
  frame : List Byte := List.replicate 16 0
  hands : List HandOver := []
  deriving DecidableEq, Repr, Inhabited

/-! ## Video Unit (R138 to R152) -/

/-- A camera record and its counters (R138, R152). -/
structure Camera where
  live : Bool := false
  seen : Bool := false
  lastStart : Option Nat := none
  period : Option Nat := none
  deadline : Option Nat := none
  starts : Count32 := 0
  glitches : Count16 := 0
  cuts : Count16 := 0
  deriving DecidableEq, Repr, Inhabited

/-- What a feed shows (R140). -/
inductive Showing
  | cam (c : Podium)
  | black
  deriving DecidableEq, Repr, Inhabited

/-- A camera frame, named by its camera and frame start. -/
structure Picture where
  cam : Podium
  time : Nat
  deriving DecidableEq, Repr, Inhabited

/-- The picture of an outgoing frame (R144). -/
inductive FramePicture
  | camera (p : Picture)
  | noPicture (p : Option Picture)
  | black
  deriving DecidableEq, Repr, Inhabited

/-- The position item of the strip (R146): the state it is drawn with, the place, the pass and EXIT of a
vamp segment in RUNNING, and the flash with its accent. -/
structure PositionItem where
  showState : ShowState
  place : Option Place
  pass : Option Nat
  exitShown : Bool
  flash : Option Bool
  deriving DecidableEq, Repr, Inhabited

/-- The overlay strip of one outgoing frame (R145 to R147); an item is none where the mask leaves it out. -/
structure Strip where
  position : Option PositionItem
  tempo : Option (Nat × TempoState)
  standby : Option (Option Nat)
  countIn : Option (Option (Nat × Nat × Option Bool))
  panic : Option (List (Nat × Nat))
  banner : Option (Nat × Origin)
  deriving DecidableEq, Repr, Inhabited

/-- An outgoing frame of a feed (R144, R150). -/
structure FeedFrame where
  time : Nat
  picture : FramePicture
  strip : Strip
  marked : Bool
  deriving DecidableEq, Repr, Inhabited

/-- A feed record and its counters (R140, R152); `before` is the camera the feed showed before (R144) and
`lastFrame` the frame it last began. -/
structure Feed where
  source : FeedSource := .podium
  pending : Option FeedSource := none
  showing : Showing := .cam .a
  before : Option Podium := none
  picture : Option Picture := none
  overlay : Mask := 31
  latency : Nat := 0
  measure : Bool := false
  mark : Option Nat := none
  phase : Nat := 0
  high : Bool := false
  loaded : Bool := false
  lastFrame : Option FeedFrame := none
  switches : Count32 := 0
  marks : Count32 := 0
  good : Count16 := 0
  discarded : Count16 := 0
  missed : Count16 := 0
  deriving DecidableEq, Repr, Inhabited

/-- A panic list entry (R148). -/
structure PanicEntry where
  station : Nat
  player : Nat
  time : Nat
  repeats : Nat
  deriving DecidableEq, Repr, Inhabited

/-- The beat flash (R146). -/
structure Flash where
  beat : Nat
  downbeat : Bool
  endTime : Nat
  deriving DecidableEq, Repr, Inhabited

/-- The Video Unit. `atOnce` is the model's own: the feeds whose next free-running frame was due at the moment
its time was set, and is the VU's next event (R2, R144). -/
structure Vu where
  camA : Camera := default
  camB : Camera := default
  feeds : List Feed := List.replicate 6 default
  standby : Option Nat := none
  flash : Option Flash := none
  banner : Option (Nat × Origin) := none
  panic : List PanicEntry := []
  panicsTaken : Count32 := 0
  replaced : Count16 := 0
  badPanic : Count16 := 0
  hands : List HandOver := []
  atOnce : List Nat := []
  deriving DecidableEq, Repr, Inhabited

/-! ## Link Unit (R171 to R187) -/

/-- The fifteen conditions, in order of id (R179). -/
inductive Cond
  | holdActive | followLost | beatSlip | stationCut | patchLate | patchFail | sourceCut
  | feedLatencyHigh | storeCrc | storeUnsealed | busError | noticeLost | clickClamp | panic | tempoClamp
  deriving DecidableEq, Repr, Inhabited

/-- The results of a request (R184). -/
inductive Result
  | ok | clamped | ignored | refusedRight | refusedState | notFound | locked | range | full | crcMismatch
  | badFrame
  deriving DecidableEq, Repr, Inhabited

/-- The events a STOP notice tells (R167, R187). -/
inductive StopEvent
  | entry | added | removed | release | restartAt | exitPreparing | exitDark | resetShow
  deriving DecidableEq, Repr, Inhabited

/-- The reasons of a STATION notice (R123). -/
inductive StationReason
  | join | poll | goodProbes | failure | success | cut | roster | unlisted
  deriving DecidableEq, Repr, Inhabited

/-- The outcomes of a PATCH notice (R101). -/
inductive PatchOutcome
  | applied | failed | discarded | superseded | refused | stray
  deriving DecidableEq, Repr, Inhabited

/-- The outcomes of a PANIC notice (R148, R149); REPLACED carries the removed entry. -/
inductive PanicOutcome
  | added | repeated | replaced (removed : PanicEntry) | acked
  deriving DecidableEq, Repr, Inhabited

/-- The content of a notice, by kind (R182); the show time stands in `Notice`. -/
inductive NoticeBody
  | state (showState : ShowState) (heldFrom : Option HeldFrom) (position : Position) (start : Option Nat)
  | stop (event : StopEvent) (stopId : Option Nat) (first : Option Origin) (heldFrom : Option HeldFrom)
      (set : StopSet) (stageClear : Bool) (restart : Option Restart) (showState : ShowState)
  | cueFired (id : Nat) (byGo : Bool) (pass : Nat) (position : Position) (pointer : Option Nat)
  | cueSkipped (run count lowest highest : Nat) (pointer : Option Nat)
  | station (station : Nat) (state : StationState) (reason : StationReason)
  | patch (station layer patch : Nat) (outcome : PatchOutcome) (origin : Option EntryOrigin) (late : Bool)
  | panic (station player : Nat) (outcome : PanicOutcome)
  | tempo (tempo : TempoState) (period : Nat) (active : Podium)
  | videoCamera (cam : Podium) (live : Bool)
  | videoSwitch (feed : Nat) (source : FeedSource) (showing : Showing)
  | videoLatency (feed : Nat) (latency threshold : Nat)
  | condition (cond : Cond) (event : Bool) (current : Bool) (latched : Bool)
  deriving DecidableEq, Repr, Inhabited

/-- A notice (R182). -/
structure Notice where
  body : NoticeBody
  time : Nat
  deriving DecidableEq, Repr, Inhabited

/-- A formed response (R177, R184); `reboots` marks the response whose sending ends in a reboot. -/
structure Response where
  code : Byte
  result : Result
  e : Bool
  w : Bool
  overrun : Bool
  showState : ShowState
  current : Mask
  latched : Mask
  time : Nat
  data : List Byte
  reboots : Bool
  deriving DecidableEq, Repr, Inhabited

/-- What a link's transmit side has begun to send, byte for byte, and when its last byte is out (R172). -/
structure Tx where
  bytes : List Byte
  endTime : Nat
  reboots : Bool
  deriving DecidableEq, Repr, Inhabited

/-- The receive states (R171). -/
inductive Recv
  | hunt | frame
  deriving DecidableEq, Repr, Inhabited

/-- An assembly run (R175). -/
structure Run where
  code : Byte
  bytes : List Byte
  deriving DecidableEq, Repr, Inhabited

/-- A link record and its counters (R171). -/
structure LinkRecord where
  recv : Recv := .hunt
  run : Option Run := none
  discarding : Option Byte := none
  responses : List Response := []
  overrun : Bool := false
  notices : List Notice := []
  noticeMask : Mask := 2046
  eMask : Mask := 331
  wMask : Mask := 32767
  forceE : Bool := false
  forceW : Bool := false
  captured : Mask := 0
  requests : Count32 := 0
  badFrames : Count16 := 0
  refusals : Count16 := 0
  overruns : Count16 := 0
  breaks : Count16 := 0
  hunted : Count32 := 0
  noticesSent : Count32 := 0
  noticesReplaced : Count32 := 0
  noticesLost : Count16 := 0
  tx : Option Tx := none
  deriving DecidableEq, Repr, Inhabited

/-- The Link Unit: the three link records and the condition set: the current values of the state
conditions and the latched bits (R179). After reset only STORE_UNSEALED (bit 9) is true and latched.
`resetOwed` says that a RESET_SHOW's response waits for the blocks to take their show reset (R194). -/
structure Lku where
  stage : LinkRecord := default
  podium : LinkRecord := default
  rig : LinkRecord := default
  current : Mask := 512
  latched : Mask := 512
  resetOwed : Bool := false
  deriving DecidableEq, Repr, Inhabited

/-! ## The part -/

/-- The state of the W361: the show time base, the RESET pin, the nine blocks, the model's own counter of
free values (log entry 2) and the queue of waiting commands. -/
structure State where
  now : Nat := 0
  inReset : Bool := false
  scu : Scu := default
  tmu : Tmu := default
  store : Store := default
  cue : CueEngine := default
  pdu : Pdu := default
  pbc : Pbc := default
  clu : Clu := default
  vu : Vu := default
  lku : Lku := default
  freeIdx : Nat := 0
  pending : List Instr := []
  deriving DecidableEq, Repr, Inhabited

/-- The part has no faults: a request the part will not take is answered with a result, and an event
that a line or the bus damages is counted (R106, R173), so no constructor is needed. -/
inductive Fault
  deriving DecidableEq, Repr

/-- The reasons a command has no meaning in the model. -/
inductive Refusal
  /-- Raised by exec's own arm for a row of the table that has no meaning yet; safe. No arm does. -/
  | notModelled (mnemonic : String)
  deriving DecidableEq, Repr

/-- The part at the moment it starts after power-on (R193), with both stop lines inactive. -/
def State.reset : State := {}

/-! ## Updates, one per field -/

/-- Change the show time base. -/
def State.setNow (t : Nat) (s : State) : State := { s with now := t }
/-- Change the Show Control Unit. -/
def State.onScu (f : Scu → Scu) (s : State) : State := { s with scu := f s.scu }
/-- Change the Tempo Unit. -/
def State.onTmu (f : Tmu → Tmu) (s : State) : State := { s with tmu := f s.tmu }
/-- Change the Show Store. -/
def State.onStore (f : Store → Store) (s : State) : State := { s with store := f s.store }
/-- Change the Cue Engine. -/
def State.onCue (f : CueEngine → CueEngine) (s : State) : State := { s with cue := f s.cue }
/-- Change the Patch Dispatch Unit. -/
def State.onPdu (f : Pdu → Pdu) (s : State) : State := { s with pdu := f s.pdu }
/-- Change the Pit Bus Controller. -/
def State.onPbc (f : Pbc → Pbc) (s : State) : State := { s with pbc := f s.pbc }
/-- Change the Click Unit. -/
def State.onClu (f : Clu → Clu) (s : State) : State := { s with clu := f s.clu }
/-- Change the Video Unit. -/
def State.onVu (f : Vu → Vu) (s : State) : State := { s with vu := f s.vu }
/-- Change the Link Unit. -/
def State.onLku (f : Lku → Lku) (s : State) : State := { s with lku := f s.lku }
/-- Draw the next index of the free values. -/
def State.nextFree (s : State) : State := { s with freeIdx := s.freeIdx + 1 }
/-- Replace the queue of waiting commands. -/
def State.withPending (q : List Instr) (s : State) : State := { s with pending := q }

end Sys2Proof.Machine
end

