-- ==== Sys2Proof/Machine/Basic.lean ====
section
/-! DEFINITION. Counters, tables numbered from 1, truncated and clamped arithmetic, and the test of a due
time: the small operations every block uses. -/

namespace Sys2Proof.Machine

/-! ## Counters (00_scope, Names) -/

/-- Add to a 16-bit counter that saturates. -/
def satAdd (c : Count16) (n : Nat) : Count16 := BitVec.ofNat 16 (min 65535 (c.toNat + n))

/-- Increase a 16-bit saturating counter by 1. -/
def satInc (c : Count16) : Count16 := satAdd c 1

/-! ## Tables whose entries are numbered from 1 (stations, lanes, feeds, songs) -/

/-- Entry `i` of a table numbered from 1; the default outside it. -/
def nth1 {α : Type} [Inhabited α] (l : List α) (i : Nat) : α :=
  match i with
  | 0 => default
  | j + 1 => l.getD j default

/-- Change entry `i` of a table numbered from 1; outside it nothing changes. -/
def upd1 {α : Type} (l : List α) (i : Nat) (f : α → α) : List α :=
  match i with
  | 0 => l
  | j + 1 => l.modify j f

/-- The numbers `1` to `n` in ascending order. -/
def upTo (n : Nat) : List Nat := (List.range n).map (· + 1)

/-- The numbers a 16-bit set names, ascending (R184). -/
def maskNumbers (m : Mask) : List Nat := (List.range 16).filter fun i => m.getLsbD i

/-- Whether every number a set names lies in `lo` to `hi`. -/
def maskWithin (lo hi : Nat) (m : Mask) : Bool := (maskNumbers m).all fun i => lo ≤ i && i ≤ hi

/-! ## Arithmetic (00_scope, Arithmetic) -/

/-- "Clamped to [a, b]". -/
def clampNat (a b x : Nat) : Nat := if x < a then a else if b < x then b else x

/-- "Limited to ±x". -/
def limitInt (x c : Int) : Int := if x < c then x else if c < -x then -x else c

/-- A value modulo 2^32 read as a signed 32-bit value. -/
def signed32 (x : Int) : Int := x.bmod 4294967296

/-- A value modulo 2^32. -/
def mod32 (x : Int) : Nat := (x % 4294967296).toNat

/-- A time moved by a signed amount, never below 0. -/
def moveTime (t : Nat) (d : Int) : Nat := ((t : Int) + d).toNat

/-! ## Due times -/

/-- A due time has been reached: the time base is at or past it, or stands at its last value, where every
due time falls at or before it (R1, R2). -/
def reached (t : Nat) (s : State) : Bool := decide (t ≤ s.now) || s.now == timeMax

/-- An optional due time has been reached. -/
def reachedOpt (t : Option Nat) (s : State) : Bool :=
  match t with
  | none => false
  | some t => reached t s

end Sys2Proof.Machine
end

