-- ==== Sys2Proof/Machine/Wire.lean ====
section
/-! DEFINITION. Bytes on the wire: the field widths of R184 and R187, the CRC-8 of the pit bus and the
links (R102, R172), the CRC-16 of the store image (R188), and the layouts of link frames (R184), responses
and notices, and pit bus frames (R185). -/

namespace Sys2Proof.Machine

/-! ## Fields -/

/-- `n` bytes, most significant first, of a value (R184). A value that `n` bytes cannot hold is sent modulo 256^n, by
the model's choice (log entry 95). -/
def be : Nat → Nat → List Byte
  | 0, _ => []
  | n + 1, v => BitVec.ofNat 8 (v / 256 ^ n) :: be n v

/-- `n` bytes of a signed value, two's complement. -/
def beInt (n : Nat) (v : Int) : List Byte := be n (v % (256 ^ n : Nat)).toNat

/-- The number that bytes spell, most significant first. -/
def beVal (bs : List Byte) : Nat := bs.foldl (fun n b => n * 256 + b.toNat) 0

/-- Yes and on are 1, no and off 0 (R187). -/
def beBool (b : Bool) : List Byte := be 1 b.toNat

/-- An optional field: its presence byte, then the field when present (R184). -/
def beOpt {α : Type} (f : α → List Byte) : Option α → List Byte
  | none => be 1 0
  | some a => be 1 1 ++ f a

/-- A list: its number of entries in one byte, then the entries (R187). -/
def beList {α : Type} (f : α → List Byte) (l : List α) : List Byte := be 1 l.length ++ l.flatMap f

/-- A show time, 6 bytes. -/
def beTime (t : Nat) : List Byte := be 6 t

/-! ## Enumerated values (R184, R187) -/

def ShowState.code : ShowState → Nat
  | .dark => 0 | .preparing => 1 | .armed => 2 | .countIn => 3 | .running => 4 | .hold => 5

def HeldFrom.code : HeldFrom → Nat
  | .dark => 0 | .song => 1

def TempoState.code : TempoState → Nat
  | .idle => 0 | .fixed => 1 | .tracking => 2 | .flywheel => 3 | .linked => 4

def podiumCode : Podium → Nat
  | .a => 0 | .b => 1

def Disposition.code : Disposition → Nat
  | .accepted => 0 | .doubleSplit => 1 | .extra => 2 | .outlier => 3 | .inactive => 4 | .ignoredCount => 5

def Origin.code : Origin → Nat
  | .stageLink => 0 | .podiumLink => 1 | .stageLine => 2 | .podiumLine => 3

/-- A stop set is a mask with bit n for origin value n (R187). -/
def StopSet.code (o : StopSet) : Nat :=
  o.stageLink.toNat + 2 * o.podiumLink.toNat + 4 * o.stageLine.toNat + 8 * o.podiumLine.toNat

def StopExit.code : StopExit → Nat
  | .preparing => 0 | .dark => 1 | .resetShow => 2

def StopEvent.code : StopEvent → Nat
  | .entry => 0 | .added => 1 | .removed => 2 | .release => 3 | .restartAt => 4 | .exitPreparing => 5
  | .exitDark => 6 | .resetShow => 7

def LandWritten.code : LandWritten → Nat
  | .atCue => 0 | .now => 1 | .nextBeat => 2 | .nextBar => 3

def EntryOrigin.code : EntryOrigin → Nat
  | .cue => 0 | .resolution => 1

def LandForm.code : LandForm → Nat
  | .now => 0 | .time => 1 | .position => 2 | .nextDownbeat => 3

def EntryState.code : EntryState → Nat
  | .queued => 0 | .sent => 1 | .acked => 2

def PatchOutcome.code : PatchOutcome → Nat
  | .applied => 0 | .failed => 1 | .discarded => 2 | .superseded => 3 | .refused => 4 | .stray => 5

def StationState.code : StationState → Nat
  | .absent => 0 | .joining => 1 | .ready => 2 | .suspect => 3 | .cut => 4

def StationReason.code : StationReason → Nat
  | .join => 0 | .poll => 1 | .goodProbes => 2 | .failure => 3 | .success => 4 | .cut => 5 | .roster => 6
  | .unlisted => 7

def reportCode : Report → Nat
  | .done _ _ => 12 | .fault _ _ => 13 | .panic _ => 14 | .join _ => 15

def MuteSource.code : MuteSource → Nat
  | .reset => 0 | .live => 1 | .cue => 2

def FeedSource.code : FeedSource → Nat
  | .podium => 0 | .camA => 1 | .camB => 2 | .black => 3

def Showing.code : Showing → Nat
  | .cam .a => 0 | .cam .b => 1 | .black => 2

def PanicOutcome.code : PanicOutcome → Nat
  | .added => 0 | .repeated => 1 | .replaced _ => 2 | .acked => 3

def Recv.code : Recv → Nat
  | .hunt => 0 | .frame => 1

def Result.code : Result → Nat
  | .ok => 0 | .clamped => 1 | .ignored => 2 | .refusedRight => 3 | .refusedState => 4 | .notFound => 5
  | .locked => 6 | .range => 7 | .full => 8 | .crcMismatch => 9 | .badFrame => 10

/-- The id of a condition (R179). -/
def Cond.id : Cond → Nat
  | .holdActive => 0 | .followLost => 1 | .beatSlip => 2 | .stationCut => 3 | .patchLate => 4
  | .patchFail => 5 | .sourceCut => 6 | .feedLatencyHigh => 7 | .storeCrc => 8 | .storeUnsealed => 9
  | .busError => 10 | .noticeLost => 11 | .clickClamp => 12 | .panic => 13 | .tempoClamp => 14

/-! ## Checks -/

/-- One bit of a CRC of `w` bits, most significant bit first. -/
def crcBit (w poly reg : Nat) : Nat :=
  if reg.testBit (w - 1) then ((2 * reg) % 2 ^ w) ^^^ poly else (2 * reg) % 2 ^ w

/-- One byte of a CRC of `w` bits: entered most significant bit first, not reflected (R102, R188). -/
def crcByte (w poly reg : Nat) (b : Byte) : Nat :=
  Nat.repeat (crcBit w poly) 8 (reg ^^^ (b.toNat <<< (w - 8)))

/-- The CRC-8 of R102: polynomial 0x2F, seed 0xFF, neither reflected nor inverted. -/
def crc8 (bs : List Byte) : Byte := BitVec.ofNat 8 (bs.foldl (crcByte 8 0x2F) 0xFF)

/-- The CRC-16 of R188: polynomial 0x1021, seed 0xFFFF, neither reflected nor inverted. -/
def crc16 (bs : List Byte) : Nat := bs.foldl (crcByte 16 0x1021) 0xFFFF

/-! ## Link frames (R172, R184) -/

/-- The SYNC byte (R172). -/
def syncByte : Byte := 0xC3

/-- A link frame: SYNC, kind (with the continuation flag), code, length, payload, CRC-8 over the bytes
after SYNC (R184). -/
def linkFrame (kind : Nat) (more : Bool) (code : Byte) (payload : List Byte) : List Byte :=
  let body := BitVec.ofNat 8 (kind + 128 * more.toNat) :: code :: BitVec.ofNat 8 payload.length :: payload
  syncByte :: (body ++ [crc8 body])

/-- The status byte of a response (R184). -/
def Response.status (r : Response) : Nat :=
  r.e.toNat + 2 * r.w.toNat + 4 * r.overrun.toNat + 16 * r.showState.code

/-- The 12-byte response header (R184). -/
def Response.header (r : Response) : List Byte :=
  be 1 r.result.code ++ be 1 r.status ++ be 2 r.current.toNat ++ be 2 r.latched.toNat ++ beTime r.time

/-- The frames that follow the first of a response run: data alone, up to 240 bytes each (R175). The
first argument bounds the number of frames. -/
def dataFrames : Nat → Byte → List Byte → List Byte
  | 0, _, _ => []
  | n + 1, code, d =>
    if d.isEmpty then [] else
      let rest := d.drop 240
      linkFrame 2 (!rest.isEmpty) code (d.take 240) ++ dataFrames n code rest

/-- All bytes of a response: one frame, or a run when its data exceeds 228 bytes (R175). -/
def Response.bytes (r : Response) : List Byte :=
  let rest := r.data.drop 228
  linkFrame 2 (!rest.isEmpty) r.code (r.header ++ r.data.take 228) ++ dataFrames rest.length r.code rest

/-! ## Shared field groups -/

/-- The position record's fields in the order of R3. -/
def bePosition (p : Position) : List Byte :=
  beOpt (fun x => be 1 x) (p.place.map Place.song) ++ beOpt (beInt 2) (p.place.map Place.bar) ++
  beOpt (be 1) (p.place.map Place.beat) ++ beOpt (be 1) (p.place.map Place.segment) ++
  be 1 p.pass ++ beBool p.exitArmed ++ be 1 p.countBars

/-- A restart point: song, bar, optional tempo (R18, R168). -/
def beRestart (r : Restart) : List Byte := be 1 r.song ++ be 2 r.bar ++ beOpt (be 2) r.tempo

/-- A tempo in hundredths of a BPM, 6,000,000,000 / P (R59). -/
def centiBpm (period : Nat) : Nat := 6000000000 / period

/-! ## Notices (R182, R184, R187) -/

/-- The kind code of a notice (R184). -/
def NoticeBody.kind : NoticeBody → Nat
  | .state .. => 1 | .stop .. => 2 | .cueFired .. => 3 | .cueSkipped .. => 4 | .station .. => 5
  | .patch .. => 6 | .panic .. => 7 | .tempo .. => 8 | .videoCamera .. => 9 | .videoSwitch .. => 9
  | .videoLatency .. => 9 | .condition .. => 10

/-- The subject of a notice as its two bytes read as one number (R187). -/
def NoticeBody.subject : NoticeBody → Nat
  | .state .. => 0
  | .stop .. => 0
  | .cueFired id .. => id
  | .cueSkipped .. => 0
  | .station st .. => st
  | .patch st layer .. => 256 * st + layer
  | .panic st player .. => 256 * st + player
  | .tempo .. => 0
  | .videoCamera c _ => podiumCode c + 1
  | .videoSwitch f .. => 256 + f
  | .videoLatency f .. => 256 + f
  | .condition c .. => c.id

/-- A panic list entry (R148). -/
def bePanic (p : PanicEntry) : List Byte :=
  be 1 p.station ++ be 1 p.player ++ beTime p.time ++ be 1 p.repeats

/-- The removed entry a PANIC notice carries: none unless the outcome is REPLACED (R148). -/
def PanicOutcome.removed : PanicOutcome → Option PanicEntry
  | .replaced p => some p
  | _ => none

/-- The content fields of a notice, in the order its owning rule lists them, without the show time. The entry that a
REPLACED notice carries follows its outcome as an optional field (R148, R184; log entry 66). A presence byte stands
before the held-from state of a STATE notice and its start time, and before the first origin and the held-from state of
a STOP notice, by the model's choice (log entry 97). -/
def NoticeBody.content : NoticeBody → List Byte
  | .state st held pos start =>
    be 1 st.code ++ beOpt (fun h => be 1 h.code) held ++ bePosition pos ++ beOpt beTime start
  | .stop ev id first held set clear restart st =>
    be 1 ev.code ++ beOpt (be 1) id ++ beOpt (fun o => be 1 o.code) first ++
    beOpt (fun h => be 1 h.code) held ++ be 1 set.code ++ beBool clear ++ beOpt beRestart restart ++
    be 1 st.code
  | .cueFired id byGo pass pos ptr =>
    be 2 id ++ be 1 (if byGo then 0 else 1) ++ be 1 pass ++ bePosition pos ++ beOpt (be 2) ptr
  | .cueSkipped run count lo hi ptr =>
    be 2 run ++ be 4 count ++ be 2 lo ++ be 2 hi ++ beOpt (be 2) ptr
  | .station st stn reason => be 1 st ++ be 1 stn.code ++ be 1 reason.code
  | .patch st layer pt out origin late =>
    be 1 st ++ be 1 layer ++ be 2 pt ++ be 1 out.code ++ beOpt (fun o => be 1 o.code) origin ++
    beBool late
  | .panic st player out =>
    be 1 st ++ be 1 player ++ be 1 out.code ++
      beOpt bePanic out.removed
  | .tempo t p active => be 1 t.code ++ be 4 p ++ be 2 (centiBpm p) ++ be 1 (podiumCode active)
  | .videoCamera _ live => be 1 (if live then 0 else 1)
  | .videoSwitch _ src sh => be 1 src.code ++ be 1 sh.code
  | .videoLatency _ lat thr => be 4 lat ++ be 4 thr
  | .condition c ev cur lat => be 1 c.id ++ beBool ev ++ beBool cur ++ beBool lat

/-- All bytes of a NOTICE frame: its subject, its content, and the show time where its owning rule lists it; a
feed's VIDEO notices carry none (R142, R151, R184). -/
def Notice.bytes (n : Notice) : List Byte :=
  let content :=
    match n.body with
    | .cueFired id byGo pass pos ptr =>
      be 2 id ++ be 1 (if byGo then 0 else 1) ++ be 1 pass ++ bePosition pos ++ beTime n.time ++
        beOpt (be 2) ptr
    | .videoSwitch feed src sh => (NoticeBody.videoSwitch feed src sh).content
    | .videoLatency feed lat thr => (NoticeBody.videoLatency feed lat thr).content
    | b => b.content ++ beTime n.time
  linkFrame 3 false (BitVec.ofNat 8 n.body.kind) (be 2 n.body.subject ++ content)

/-! ## Pit bus frames (R102, R185) -/

/-- The kind code of an outbound frame (R185). -/
def OutFrame.kind : OutFrame → Nat
  | .apply _ _ none => 1 | .apply _ _ (some _) => 1 | .cancel .. => 2 | .probe => 3 | .poll _ => 4
  | .broadcastPoll => 4 | .ackReport => 5 | .nakReport => 6

/-- The body of an outbound frame (R185). -/
def OutFrame.body : OutFrame → List Byte
  | .apply layer patch none => be 1 layer ++ be 2 patch
  | .apply layer patch (some land) => be 1 layer ++ be 2 patch ++ be 4 land
  | .cancel layer patch => be 1 layer ++ be 2 patch
  | _ => []

/-- The bytes of a pit bus frame after its header: kind and body length, body, CRC-8 (R185). -/
def busFrame (kind : Nat) (body : List Byte) : List Byte :=
  let bs := BitVec.ofNat 8 (16 * kind + body.length) :: body
  bs ++ [crc8 bs]

/-- Time a frame of `n` bytes holds the bus, in µs rounded up: a 5-bit header of 0.5 µs bits and bytes of
4.5 µs (06, Bus and frames; log entry 14). -/
def busTime (n : Nat) : Nat := (5 + 9 * n + 1) / 2

/-- The bus time of an outbound frame. -/
def OutFrame.time (f : OutFrame) : Nat := busTime (busFrame f.kind f.body).length

/-- The header address × 2 + direction of a PBC frame to an address (R103). -/
def outHeader (address : Nat) : Nat := address * 2

/-- The header of a station's attention (R103). -/
def attentionHeader (station : Nat) : Nat := station * 2 + 1

end Sys2Proof.Machine
end

