-- ==== Sys2Proof/Machine/Flags.lean ====
section
/-! DEFINITION. The condition set, its current values and latched bits, the notices and their queues, the
E and W flags, and the forming of a response (R176 to R183): every flag a master sees. -/

namespace Sys2Proof.Machine

/-! ## Link records -/

/-- The record of a link (R171). -/
def Lku.link (k : Lku) : Link → LinkRecord
  | .stage => k.stage
  | .podium => k.podium
  | .rig => k.rig

/-- Change the record of one link. -/
def Lku.onLink (l : Link) (f : LinkRecord → LinkRecord) (k : Lku) : Lku :=
  match l with
  | .stage => { k with stage := f k.stage }
  | .podium => { k with podium := f k.podium }
  | .rig => { k with rig := f k.rig }

/-- Change the record of one link of the part. -/
def State.onLink (l : Link) (f : LinkRecord → LinkRecord) (s : State) : State :=
  s.onLku (Lku.onLink l f)

/-- The three links. -/
def allLinks : List Link := [.stage, .podium, .rig]

/-! ## Notices (R182) -/

/-- The links a notice goes to: PANIC to the Stage and Podium Links, an UNLISTED station to the Rig Link,
any other to all three (R182). -/
def NoticeBody.destinations : NoticeBody → List Link
  | .panic .. => [.stage, .podium]
  | .station _ _ .unlisted => [.rig]
  | _ => allLinks

/-- Two notices of one kind and subject. -/
def Notice.sameSubject (m n : Notice) : Bool :=
  m.body.kind == n.body.kind && m.body.subject == n.body.subject

/-- Whether a link drops a notice: its kind is enabled, no notice of its kind and subject is queued, and
the queue holds 16 (R182). -/
def LinkRecord.drops (n : Notice) (r : LinkRecord) : Bool :=
  r.noticeMask.getLsbD n.body.kind && !(r.notices.any (Notice.sameSubject n)) &&
    decide (Config.noticeMax ≤ r.notices.length)

/-- The bit of a condition in a mask. -/
def Cond.bit (c : Cond) : Mask := 1#16 <<< c.id

/-- A link takes a notice (R182): left out, replaced in place, entered last, or dropped. -/
def LinkRecord.take (n : Notice) (r : LinkRecord) : LinkRecord :=
  if r.noticeMask.getLsbD n.body.kind = false then r
  else if r.notices.any (Notice.sameSubject n) then
    { r with
      notices := r.notices.map fun m => if Notice.sameSubject n m then n else m
      noticesReplaced := r.noticesReplaced + 1 }
  else if r.notices.length < Config.noticeMax then { r with notices := r.notices ++ [n] }
  else
    { r with noticesLost := satInc r.noticesLost, captured := r.captured ||| Cond.noticeLost.bit }

/-- One link of the Link Unit takes a notice; a drop latches NOTICE_LOST (R179, R182). -/
def Lku.notify (n : Notice) (k : Lku) (l : Link) : Lku :=
  { k.onLink l (LinkRecord.take n) with
    latched := if (k.link l).drops n then k.latched ||| Cond.noticeLost.bit else k.latched }

/-- Raise a notice into the Link Unit with the show time now (R182). -/
def raiseNotice (b : NoticeBody) (s : State) : State :=
  s.onLku fun k => b.destinations.foldl (Lku.notify ⟨b, s.now⟩) k

/-! ## Conditions (R179, R183) -/

/-- The event conditions; the others are state conditions (R179). -/
def Cond.isEvent : Cond → Bool
  | .beatSlip | .patchLate | .patchFail | .busError | .noticeLost | .clickClamp | .tempoClamp => true
  | _ => false

/-- Capture an event condition on every link and latch it (R179). -/
def Lku.capture (c : Cond) (k : Lku) : Lku :=
  { k with
    stage := { k.stage with captured := k.stage.captured ||| c.bit }
    podium := { k.podium with captured := k.podium.captured ||| c.bit }
    rig := { k.rig with captured := k.rig.captured ||| c.bit }
    latched := k.latched ||| c.bit }

/-- Raise an event condition (other than NOTICE_LOST): captured on each link, latched, and told in a
CONDITION notice (R179, R183). -/
def raiseEvent (c : Cond) (s : State) : State :=
  raiseNotice (.condition c true true true) (s.onLku (Lku.capture c))

/-- The current value of a state condition. -/
def State.holds (s : State) (c : Cond) : Bool := s.lku.current.getLsbD c.id

/-- Its owner sets or clears a state condition; a change latches a true value and raises a CONDITION
notice (R179, R183). -/
def setCondition (c : Cond) (v : Bool) (s : State) : State :=
  if s.holds c = v then s
  else
    let s := s.onLku fun k =>
      { k with
        current := if v then k.current ||| c.bit else k.current &&& ~~~c.bit
        latched := if v then k.latched ||| c.bit else k.latched }
    raiseNotice (.condition c false v (s.lku.latched.getLsbD c.id)) s

/-! ## E and W (R181) and responses (R177) -/

/-- The condition values as one link sees them (R179). -/
def Lku.seen (k : Lku) (l : Link) : Mask := k.current ||| (k.link l).captured

/-- The E flag of a response formed on a link (R181). -/
def Lku.eFlag (k : Lku) (l : Link) : Bool :=
  (k.link l).forceE || ((k.link l).eMask &&& k.seen l) != 0#16

/-- The W flag of a response formed on a link (R181). -/
def Lku.wFlag (k : Lku) (l : Link) : Bool :=
  (k.link l).forceW || ((k.link l).wMask &&& k.latched) != 0#16

/-- The response formed now on a link with a code, a result and data (R177). -/
def formResponse (l : Link) (code : Byte) (result : Result) (data : List Byte) (reboots : Bool)
    (s : State) : Response :=
  { code := code, result := result, e := s.lku.eFlag l, w := s.lku.wFlag l
    overrun := (s.lku.link l).overrun, showState := s.scu.showState, current := s.lku.seen l
    latched := s.lku.latched, time := s.now, data := data, reboots := reboots }

/-- Form a response on a link: it joins the response queue and clears the link's captured event
conditions and overrun flag, which it carries (R177). -/
def respond (l : Link) (code : Byte) (result : Result) (data : List Byte) (reboots : Bool)
    (s : State) : State :=
  s.onLink l fun r =>
    { r with
      responses := r.responses ++ [formResponse l code result data reboots s]
      captured := 0
      overrun := false }

end Sys2Proof.Machine
end

