-- ==== Sys2Proof/Machine/Ops.lean ====
section
/-! DEFINITION. Shared operations over the store and the Show Control Unit: song, segment and cue lookups,
beat indices, the effect of a show state change and its STATE notice, the waiting hand-overs, and the wrapper
of every command's meaning. -/

namespace Sys2Proof.Machine

/-- Run a command's effect on a part that is not held in reset; a part held in reset takes no event
(R193). -/
def live (f : State → State) (s : State) : Host.Outcome State Fault Refusal :=
  .next (if s.inReset then s else f s)

/-! ## Charts (R19, R20) -/

/-- The record of a song number, if the song is defined. -/
def Store.song (st : Store) (n : Nat) : Option Song := nth1 st.songs n

/-- A segment's last bar (R20). -/
def Segment.lastBar (g : Segment) : Nat := g.firstBar + g.barCount - 1

/-- A song's last bar (R19). -/
def Song.lastBar (g : Song) : Nat :=
  match g.segments.getLast? with
  | none => 0
  | some x => x.lastBar

/-- The index of the segment a bar lies in (R20). -/
def Song.segmentIndex (g : Song) (bar : Nat) : Option Nat :=
  g.segments.findIdx? fun x => decide (x.firstBar ≤ bar) && decide (bar ≤ x.lastBar)

/-- The segment a bar lies in. -/
def Song.segmentAt (g : Song) (bar : Nat) : Option Segment :=
  g.segments.find? fun x => decide (x.firstBar ≤ bar) && decide (bar ≤ x.lastBar)

/-- A bar lies in a song (R19). -/
def Song.hasBar (g : Song) (bar : Nat) : Bool := decide (1 ≤ bar) && decide (bar ≤ g.lastBar)

/-- The segment a place names (R20). -/
def Store.segmentOf (st : Store) (p : Place) : Option Segment :=
  (st.song p.song).bind fun g => g.segments[p.segment]?

/-- The segment in force: the one the position record's segment field names (R20). -/
def State.segment (s : State) : Option Segment := s.scu.position.place.bind s.store.segmentOf

/-- The beat index of a bar and beat in a segment (R62). -/
def Segment.beatIndex (g : Segment) (bar beat : Nat) : Int :=
  ((bar : Int) - g.firstBar) * g.meter + ((beat : Int) - 1)

/-- The period of the grid in µs, P16 / 16 truncated (00_scope, Time). -/
def Tmu.period (t : Tmu) : Nat := t.p16 / 16

/-! ## Cue table (R60) -/

/-- The entry of a cue id. -/
def Store.cue (st : Store) (id : Nat) : Option CueEntry := st.cues.find? fun e => e.cue.id == id

/-- A GO cue. -/
def Cue.isGo (c : Cue) : Bool :=
  match c.kind with
  | .go _ => true
  | .position .. => false

/-- The chart place of a cue (R60). -/
def Cue.place (c : Cue) : Nat × Nat :=
  match c.kind with
  | .go bar => (bar, 1)
  | .position bar beat _ _ => (bar, beat)

/-- The firing point of a POSITION cue: its beat index less its lead, as a bar and beat of its segment
(R72). By a meter of 0, which only a storage fault leaves, the quotient is 0 and the remainder the dividend, by the
model's choice (log entry 93). -/
def Segment.firingPoint (g : Segment) (bar beat lead : Nat) : Int × Int :=
  let f := g.beatIndex bar beat - lead
  (g.firstBar + f.tdiv g.meter, f.tmod g.meter + 1)

/-- The GO cue of a song with the lowest cue id of those that satisfy a test; the table is kept in cue id
order (R60). -/
def Store.firstGo (st : Store) (song : Nat) (ok : Cue → Bool) : Option Nat :=
  (st.cues.find? fun e => e.cue.isGo && e.cue.song == song && ok e.cue).map fun e => e.cue.id

/-- Change the entries of the cue table. -/
def State.onCues (f : CueEntry → CueEntry) (s : State) : State :=
  s.onStore fun st => { st with cues := st.cues.map f }

/-! ## Stop set (R153) -/

/-- An origin is in the stop set. -/
def StopSet.has (o : StopSet) : Origin → Bool
  | .stageLink => o.stageLink
  | .podiumLink => o.podiumLink
  | .stageLine => o.stageLine
  | .podiumLine => o.podiumLine

/-- The stop set with an origin present or absent. -/
def StopSet.put (o : StopSet) (g : Origin) (v : Bool) : StopSet :=
  match g with
  | .stageLink => { o with stageLink := v }
  | .podiumLink => { o with podiumLink := v }
  | .stageLine => { o with stageLine := v }
  | .podiumLine => { o with podiumLine := v }

/-- The stop set is empty. -/
def StopSet.isEmpty (o : StopSet) : Bool :=
  !(o.stageLink || o.podiumLink || o.stageLine || o.podiumLine)

/-! ## Show state (R17, R18) -/

/-- The held-from state of the stop record (R153). -/
def Scu.heldFrom (c : Scu) : Option HeldFrom := c.stopRecord.map StopRecord.heldFrom

/-- Raise a STATE notice: the show state, the held-from state in HOLD, the position record, and the start
time when COUNT made the change (R18). -/
def raiseState (start : Option Nat) (s : State) : State :=
  raiseNotice (.state s.scu.showState (if s.scu.showState = .hold then s.scu.heldFrom else none)
    s.scu.position start) s

/-- Change the show state. -/
def setShow (st : ShowState) (s : State) : State := s.onScu fun c => { c with showState := st }

/-- Set the position record. -/
def setPosition (p : Position) (s : State) : State := s.onScu fun c => { c with position := p }

/-- The position record of a song and bar at beat 1: its segment, pass 1, no vamp exit, no count bars
(R5, R163). A bar of the song that lies in no segment, which only a storage fault leaves, takes segment index 0, by the
model's choice (log entry 89). -/
def Store.positionAt (st : Store) (song bar : Nat) : Position :=
  { place := some ⟨song, bar, 1, ((st.song song).bind fun g => g.segmentIndex bar).getD 0⟩ }

/-- In PREPARING, with no resolution entry outstanding, the show becomes ARMED (R7). -/
def armedIfResolved (s : State) : State :=
  if s.scu.showState = .preparing ∧ s.pdu.outstanding = 0 then raiseState none (setShow .armed s)
  else s

/-! ## Hand-overs (R158) -/

/-- A delivered grid beat. -/
def HandOver.isBeat : HandOver → Bool
  | .beat _ => true
  | _ => false

/-- An entry to HOLD. -/
def HandOver.isHold : HandOver → Bool
  | .hold _ _ => true
  | _ => false

/-- A show reset. -/
def HandOver.isReset : HandOver → Bool
  | .showReset => true
  | _ => false

/-- Hand a grid beat event to the CLU, CUE, PDU and VU (R33). -/
def handBeat (g : GridBeat) (s : State) : State :=
  (((s.onClu fun c => { c with hands := c.hands ++ [.beat g] }).onCue fun c =>
    { c with hands := c.hands ++ [.beat g] }).onPdu fun c =>
    { c with hands := c.hands ++ [.beat g] }).onVu fun c => { c with hands := c.hands ++ [.beat g] }

/-- Hand the entry to HOLD to the TMU, CLU, PDU, CUE and VU (R158). -/
def handHold (id : Nat) (o : Origin) (s : State) : State :=
  ((((s.onTmu fun c => { c with hands := c.hands ++ [.hold id o] }).onClu fun c =>
    { c with hands := c.hands ++ [.hold id o] }).onPdu fun c =>
    { c with hands := c.hands ++ [.hold id o] }).onCue fun c =>
    { c with hands := c.hands ++ [.hold id o] }).onVu fun c => { c with hands := c.hands ++ [.hold id o] }

/-- Hand the show reset to the TMU, CUE, PDU and VU (R194). -/
def handReset (s : State) : State :=
  (((s.onTmu fun c => { c with hands := c.hands ++ [.showReset] }).onCue fun c =>
    { c with hands := c.hands ++ [.showReset] }).onPdu fun c =>
    { c with hands := c.hands ++ [.showReset] }).onVu fun c => { c with hands := c.hands ++ [.showReset] }

/-! ## RESET_SHOW's response (R194) -/

/-- The TMU, CUE, PDU and VU have taken every show reset handed to them. -/
def State.resetTaken (s : State) : Bool :=
  !(s.tmu.hands.any HandOver.isReset || s.cue.hands.any HandOver.isReset || s.pdu.hands.any HandOver.isReset ||
    s.vu.hands.any HandOver.isReset)

/-- A block has taken the show reset: once all four have, the response that RESET_SHOW waits for is formed
(R177, R194). -/
def resetAnswered (s : State) : State :=
  if s.lku.resetOwed && s.resetTaken then
    respond .rig 27 .ok [] false (s.onLku fun k => { k with resetOwed := false })
  else s

/-! ## Start-up (R193) -/

/-- A stop line at start-up: inactive, with a change pending from show time 0 when its pin is active
(R154, R169; log entry 6). -/
def LineRecord.startUp (r : LineRecord) : LineRecord :=
  { pin := r.pin, level := false, since := if r.pin then some 0 else none, glitches := 0 }

/-- Bring the whole part to its start-up state (R193); what stands outside it stays: the stop lines' pins,
the queue of commands and the model's counter of free values. -/
def startUp (s : State) : State :=
  { State.reset with
    scu :=
      { State.reset.scu with stageLine := s.scu.stageLine.startUp, podiumLine := s.scu.podiumLine.startUp }
    freeIdx := s.freeIdx
    pending := s.pending }

end Sys2Proof.Machine
end

