-- ==== Sys2Proof/Machine/ClickOps.lean ====
section
/-! DEFINITION. The Click Unit's shared operations: effective offset (R129), mute (R127), the schedule
(R130 to R133), bursts (R134), silence (R135, R136) and the pattern override (R128). -/

namespace Sys2Proof.Machine

/-- The live part of a lane. -/
def State.lane (s : State) (n : Nat) : Lane := nth1 s.clu.lanes n

/-- The lane base record of a lane. -/
def State.laneBase (s : State) (n : Nat) : LaneBase := nth1 s.store.laneBases n

/-- Change one lane. -/
def State.onLane (n : Nat) (f : Lane → Lane) (s : State) : State :=
  s.onClu fun c => { c with lanes := upd1 c.lanes n f }

/-! ## Effective offset (R129) -/

/-- Base offset plus trim plus the latency of the followed feed (R129). A follow feed above 6, which only a storage
fault leaves, names no feed and adds 0, by the model's choice (log entry 93). -/
def offsetSum (s : State) (n : Nat) : Int :=
  (s.laneBase n).base + (s.lane n).trim +
    match (s.laneBase n).follow with
    | none => 0
    | some f => ((nth1 s.vu.feeds f).latency : Int)

/-- Recompute a lane's effective offset; CLICK_CLAMP is raised, and counted, when the clamp takes hold
(R129). -/
def recomputeOffset (n : Nat) (s : State) : State :=
  let sum := offsetSum s n
  let clamped := decide (sum < 0) || decide ((Config.offsetMax : Int) < sum)
  let takesHold := clamped && !(s.lane n).clamped
  let s := s.onLane n fun l =>
    { l with
      offset := clampNat 0 Config.offsetMax sum.toNat
      clamped := clamped
      clamps := if takesHold then satInc l.clamps else l.clamps }
  if takesHold then raiseEvent .clickClamp s else s

/-- The VU hands over a feed's latency: every lane that follows the feed is recomputed (R129). -/
def handLatency (feed : Nat) (s : State) : State :=
  (upTo 16).foldl (fun s n => if (s.laneBase n).follow = some feed then recomputeOffset n s else s) s

/-! ## Mute (R127) -/

/-- Drop every scheduled click of a lane, counting each (R133). -/
def Lane.dropAll (l : Lane) : Lane :=
  { l with schedule := [], dropped := satAdd l.dropped l.schedule.length }

/-- A mute setting taken on a lane (R127). -/
def Lane.setMute (mute : Bool) (source : MuteSource) (l : Lane) : Lane :=
  if mute then { l.dropAll with muted := true, source := source }
  else { l with muted := false, source := source }

/-! ## Bursts (R134) -/

/-- A click sounds: its burst takes the place of any earlier one (R134). -/
def Lane.sound (now : Nat) (l : Lane) (c : Click) : Lane :=
  { l with burst := some ⟨c.level, c.accent, now + Config.burstLength⟩, sounded := l.sounded + 1 }

/-- Every click of the lane whose time has been reached leaves the schedule and sounds, in order. -/
def Lane.soundDue (s : State) (l : Lane) : Lane :=
  (l.schedule.takeWhile fun c => reached c.time s).foldl (Lane.sound s.now)
    { l with schedule := l.schedule.dropWhile fun c => reached c.time s }

/-! ## Scheduling (R130 to R133) -/

/-- The output level of an accent level on a lane (R131). An accent level above 3, which only a storage fault leaves,
gives level 0, by the model's choice (log entry 93). -/
def LaneBase.level (b : LaneBase) : Nat → Nat
  | 1 => b.weak
  | 2 => b.normal
  | 3 => b.accent
  | _ => 0

/-- Put a click in time order; two clicks at one time become one with the higher level (R133). Its kind is that of the
click already held (log entry 31), and so is its accent level where the two levels are equal (log entry 74). -/
def insertClick (c : Click) : List Click → List Click
  | [] => [c]
  | d :: ds =>
    if c.time < d.time then c :: d :: ds
    else if c.time = d.time then
      (if d.level < c.level then { d with level := c.level, accent := c.accent } else d) :: ds
    else d :: insertClick c ds

/-- A click joins a lane's schedule: a level of 0 is left out, a 25th click is not added and counted as
dropped (R130, R133). -/
def Lane.addClick (l : Lane) (c : Click) : Lane :=
  if c.level = 0 then l
  else if l.schedule.any (fun d => d.time == c.time) || decide (l.schedule.length < Config.scheduleMax) then
    { l with schedule := insertClick c l.schedule }
  else { l with dropped := satInc l.dropped }

/-- Drop every click at or after a time, counting each (R130, R135). -/
def Lane.dropFrom (t : Nat) (l : Lane) : Lane :=
  { l with
    schedule := l.schedule.filter fun c => decide (c.time < t)
    dropped := satAdd l.dropped (l.schedule.filter fun c => decide (t ≤ c.time)).length }

/-- The pattern slot in use on a lane at a delivered position: the override, or the segment's slot (R128). READ_LANE
reports it for the position record in every show state: in DARK after a song end and in HOLD it is, by the model's
choice, that of the position kept, and 0 only where the record has no song (log entry 90). -/
def patternInUse (s : State) (n : Nat) (p : Position) : Nat :=
  match (s.lane n).override with
  | some k => k
  | none => ((p.place.bind s.store.segmentOf).map Segment.pattern).getD 0

/-- The clicks a lane puts into its schedule for a beat: the count pattern in COUNT_IN (R132), the pattern
in use with the lane's subdivision in RUNNING (R130, R131). A subdivision or level out of range, which only a storage
fault leaves, is used as it stands, by the model's choice (log entry 83). A pattern id above 15 names no slot and gives
accent level 0 throughout, and so does a slot for a beat above 12, by the model's choice too (log entry 93). -/
def beatClicks (s : State) (n : Nat) (g : GridBeat) : List Click :=
  let b := s.laneBase n
  let e := (s.lane n).offset
  let beat := (g.position.place.map Place.beat).getD 1
  if g.showState = .countIn then
    let a := if beat = 1 then 3 else 2
    [⟨g.time + e, true, a, b.level a⟩]
  else
    let pat := s.store.patterns.getD (patternInUse s n g.position) default
    (List.range b.subdivision).map fun j =>
      let a := if j = 0 then pat.accents.getD (beat - 1) 0 else pat.sub
      ⟨g.time + j * (g.period / b.subdivision) + e, j == 0, a, b.level a⟩

/-- One sounding lane schedules a beat: the drop of R130, its clicks, and those already due sound. -/
def scheduleLane (g : GridBeat) (s : State) (n : Nat) : State :=
  if (s.lane n).muted then s
  else
    let clicks := beatClicks s n g
    let from_ := g.time + (s.lane n).offset
    s.onLane n fun l => (clicks.foldl Lane.addClick (l.dropFrom from_)).soundDue s

/-- The CLU takes a hand-over: a beat is scheduled on every sounding lane in COUNT_IN and RUNNING, ends the
clicks at song end in DARK (R130, R135); HOLD entry silences every lane (R136). -/
def takeClu (s : State) (h : HandOver) : State :=
  match h with
  | .beat g =>
    match g.showState with
    | .countIn => (upTo 16).foldl (scheduleLane g) s
    | .running => (upTo 16).foldl (scheduleLane g) s
    | .dark => s.onClu fun c => { c with lanes := c.lanes.map fun l => l.dropFrom (g.time + l.offset) }
    | _ => s
  | .hold _ _ => s.onClu fun c => { c with lanes := c.lanes.map fun l => { l.dropAll with burst := none } }
  | .showReset => s

/-- The CLU takes every waiting hand-over, in order (R158). -/
def drainClu (s : State) : State :=
  s.clu.hands.foldl takeClu (s.onClu fun c => { c with hands := [] })

/-- Every lane's pattern override ends, after the hand-overs made before (R128, R158). -/
def endOverrides (s : State) : State :=
  (drainClu s).onClu fun c => { c with lanes := c.lanes.map fun l => { l with override := none } }

/-- A LANE action: the mute of each lane of the set with source CUE, and the override when a pattern is
present (R70, R127, R128). -/
def laneAction (lanes : Mask) (mute : Bool) (pattern : Option Nat) (s : State) : State :=
  (maskNumbers lanes).foldl
    (fun s n => s.onLane n fun l =>
      let l := l.setMute mute .cue
      match pattern with
      | none => l
      | some k => { l with override := some k }) s

/-- The slot byte a click output frame beginning now carries for a lane: bits 4–0 level, bits 6–5 accent
level (R134, 11 Pins); level 0 while the part is held in reset (R193). The accent bits of a slot at level 0 for want of
a burst or in reset are 0, by the model's choice (log entry 96). Of a level above 31 the slot takes the low five bits
(log entry 83). -/
def clickSlot (s : State) (n : Nat) : Byte :=
  match (s.lane n).burst with
  | none => 0
  | some b => if s.inReset then 0 else BitVec.ofNat 8 (b.level % 32 + 32 * (b.accent % 4))

/-- The click output frame that begins now: one slot per lane in lane order (R134). -/
def clickFrame (s : State) : List Byte := (upTo 16).map (clickSlot s)

end Sys2Proof.Machine
end

