-- ==== Sys2Proof/Machine/VideoOps.lean ====
section
/-! DEFINITION. The Video Unit's shared operations: sources and switching (R141 to R144), the overlay strip
(R145 to R147), marked frames (R150), latency (R151) and the panic list's condition (R148). -/

namespace Sys2Proof.Machine

/-- A camera record. -/
def Vu.cam (v : Vu) : Podium → Camera
  | .a => v.camA
  | .b => v.camB

/-- Change one camera record. -/
def State.onCam (c : Podium) (f : Camera → Camera) (s : State) : State :=
  s.onVu fun v =>
    match c with
    | .a => { v with camA := f v.camA }
    | .b => { v with camB := f v.camB }

/-- A feed record. -/
def State.feed (s : State) (n : Nat) : Feed := nth1 s.vu.feeds n

/-- The feed base record of a feed. -/
def State.feedBase (s : State) (n : Nat) : FeedBase := nth1 s.store.feedBases n

/-- Change one feed record. -/
def State.onFeed (n : Nat) (f : Feed → Feed) (s : State) : State :=
  s.onVu fun v => { v with feeds := upd1 v.feeds n f }

/-- What a source resolves to (R141). -/
def State.resolve (s : State) : FeedSource → Showing
  | .podium => .cam s.tmu.active
  | .camA => .cam .a
  | .camB => .cam .b
  | .black => .black

/-- Whether what a feed shows is a LIVE camera. -/
def State.isLive (s : State) : Showing → Bool
  | .cam c => (s.vu.cam c).live
  | .black => false

/-- SOURCE_CUT is true while a seen camera is CUT (R139). -/
def Vu.sourceCut (v : Vu) : Bool := (!v.camA.live && v.camA.seen) || (!v.camB.live && v.camB.seen)

/-- The hold period of a feed: the measured period of the camera it shows, else of the one it showed
before, else 20,000 µs (R144). -/
def State.holdPeriod (s : State) (f : Feed) : Nat :=
  let earlier := (f.before.bind fun c => (s.vu.cam c).period).getD Config.holdDefault
  match f.showing with
  | .cam c => (s.vu.cam c).period.getD earlier
  | .black => earlier

/-- When a feed that shows a CUT camera or black begins its next frame (R144; log entry 15 for the first
one after start-up). -/
def State.freeRunAt (s : State) (f : Feed) : Nat :=
  (f.lastFrame.map FeedFrame.time).getD 0 + s.holdPeriod f

/-! ## Overlay strip (R145 to R147) -/

/-- The flash drawn on a frame that begins now: its accent style, or none. A frame that begins while a delivered
beat still waits for the VU is drawn unflashed, and the flash is never drawn for a beat other than the position's
(R146). -/
def State.flashNow (s : State) : Option Bool :=
  s.vu.flash.bind fun f =>
    if s.now < f.endTime ∧ s.vu.hands.any HandOver.isBeat = false ∧
        s.scu.position.place.map Place.beat = some f.beat then
      some f.downbeat
    else none

/-- The place the position item draws (R146). -/
def State.shownPlace (s : State) : Option Place :=
  let p := s.scu.position.place
  match s.scu.showState with
  | .preparing | .armed | .countIn =>
    s.scu.armed.map fun a => ⟨a.1, a.2, 1, (p.map Place.segment).getD 0⟩
  | _ => p

/-- The position item (R146). Its beat figure takes the flash also in COUNT_IN, where it is the armed position's beat 1
(log entry 64), and pass and EXIT are drawn in RUNNING alone (log entry 65). -/
def State.positionItem (s : State) : PositionItem :=
  let vamp := s.scu.showState = .running ∧ (s.segment.map Segment.vamp) = some true
  { showState := s.scu.showState
    place := s.shownPlace
    pass := if vamp then some s.scu.position.pass else none
    exitShown := if vamp then s.scu.position.exitArmed else false
    flash := s.flashNow }

/-- The strip of a frame a feed begins now (R145). -/
def drawStrip (s : State) (f : Feed) : Strip :=
  let has (b : Nat) : Bool := f.overlay.getLsbD b
  { position := if has 0 then some s.positionItem else none
    tempo := if has 1 then some (600000000 / s.tmu.period, s.tmu.tempo) else none
    standby := if has 2 then some s.vu.standby else none
    countIn :=
      if has 3 then
        some (if s.scu.showState = .countIn then
          some (s.scu.position.countBars, (s.scu.position.place.map Place.beat).getD 1, s.flashNow)
          else none)
      else none
    panic := if has 4 then some (s.vu.panic.map fun p => (p.station, p.player)) else none
    banner := s.vu.banner }

/-! ## Frames (R142, R144, R150) -/

/-- A feed begins an outgoing frame now with a picture and a fresh strip; a frame of phase 0 is marked
while the feed measures (R144, R150). -/
def beginFrame (n : Nat) (pic : FramePicture) (s : State) : State :=
  (s.onVu fun v => { v with atOnce := v.atOnce.filter (· != n) }).onFeed n fun f =>
    let marked := f.measure && f.phase == 0
    { f with
      lastFrame := some ⟨s.now, pic, drawStrip s f, marked⟩
      mark := if marked then some s.now else f.mark
      missed := if marked && f.mark.isSome then satInc f.missed else f.missed
      marks := if marked then f.marks + 1 else f.marks
      phase := if f.measure then (f.phase + 1) % 32 else f.phase }

/-- The feed carries a camera's frame of this moment, which becomes its last picture (R144). -/
def beginLive (n : Nat) (c : Podium) (s : State) : State :=
  beginFrame n (.camera ⟨c, s.now⟩) (s.onFeed n fun f => { f with picture := some ⟨c, s.now⟩ })

/-- The picture of a holding feed: the last picture again, black if there is none (R141). -/
def Feed.heldPicture (f : Feed) : FramePicture :=
  match f.picture with
  | some p => .camera p
  | none => .black

/-- The picture of a free-running frame: the last picture with NO PICTURE for a CUT camera, or black
(R144). -/
def Feed.freePicture (f : Feed) : FramePicture :=
  match f.showing with
  | .cam _ => .noPicture f.picture
  | .black => .black

/-- The switch of a feed to its pending source (R142). -/
def switchFeed (n : Nat) (s : State) : State :=
  match (s.feed n).pending with
  | none => s
  | some src =>
    let sh := s.resolve src
    let s := s.onFeed n fun f =>
      { f with
        source := src
        pending := none
        showing := sh
        before := match f.showing with
          | .cam c => if sh = .cam c then f.before else some c
          | .black => f.before
        switches := f.switches + 1 }
    raiseNotice (.videoSwitch n src sh) s

/-- A camera's frame start is handed to a feed: it switches to that camera, begins a live or a held frame,
or, showing another picture, takes nothing (R138, R142, R144). -/
def feedOnFrameStart (c : Podium) (s : State) (n : Nat) : State :=
  let f := s.feed n
  match f.pending with
  | none => if f.showing = .cam c then beginLive n c s else s
  | some src =>
    let dest := s.resolve src
    if dest = .cam c then beginLive n c (switchFeed n s)
    else if f.showing = .cam c then
      if s.isLive dest then beginFrame n f.heldPicture s
      else
        let s := switchFeed n s
        beginFrame n (s.feed n).freePicture s
    else s

/-- A feed that shows a CUT camera or black begins a free-running frame; a pending source that is black or
a CUT camera switches there (R142, R144). -/
def freeRunFrame (n : Nat) (s : State) : State :=
  let f := s.feed n
  let s :=
    match f.pending with
    | none => s
    | some src => if s.isLive (s.resolve src) then s else switchFeed n s
  beginFrame n (s.feed n).freePicture s

/-- A feed's free-running frame is due. -/
def feedDue (s : State) (n : Nat) : Bool :=
  let f := s.feed n
  decide (1 ≤ n ∧ n ≤ 6) && !(s.isLive f.showing) && reached (s.freeRunAt f) s

/-- After an event that may have moved a free-running frame's time, the feeds whose frame is due by it, and was
not before, are the VU's next events (R2, R144). -/
def framesAtOnce (before s : State) : State :=
  let due := (upTo 6).filter fun n => feedDue s n && (!feedDue before n || s.vu.atOnce.contains n)
  s.onVu fun v => { v with atOnce := due }

/-! ## Source requests (R141) and re-routing (R143) -/

/-- A requested source is taken on one feed (R141). -/
def requestSource (s : State) (src : FeedSource) (f : Feed) : Feed :=
  if src = f.source then { f with pending := none }
  else
    let dest := s.resolve src
    if dest = f.showing ∧ (dest = .black ∨ s.isLive dest = true) then { f with source := src, pending := none }
    else { f with pending := some src }

/-- A source and an overlay mask, each where present, are set on a feed set (R141). -/
def feedAction (feeds : Mask) (source : Option FeedSource) (overlay : Option Mask) (s : State) : State :=
  (maskNumbers feeds).foldl
    (fun s n =>
      let s := match overlay with
        | none => s
        | some m => s.onFeed n fun f => { f with overlay := m }
      match source with
      | none => s
      | some src => s.onFeed n (requestSource s src)) s

/-- A handover re-routes every PODIUM feed to the new active podium's camera (R143). -/
def rerouteFeeds (s : State) : State :=
  s.onVu fun v =>
    { v with
      feeds := v.feeds.map fun f =>
        if f.source = .podium ∧ (f.pending = none ∨ f.pending = some .podium) then
          { f with pending := if f.showing = .cam s.tmu.active then none else some .podium }
        else f }

/-! ## Latency (R151) -/

/-- Judge a feed's latency high; a change raises a VIDEO notice, and FEED_LATENCY_HIGH follows (R151). The VIDEO notice
is raised before FEED_LATENCY_HIGH's CONDITION notice, by the model's choice (log entry 75). -/
def judgeLatency (n : Nat) (s : State) : State :=
  let high := decide ((s.feedBase n).threshold < (s.feed n).latency)
  if (s.feed n).high = high then s
  else
    let s := s.onFeed n fun f => { f with high := high }
    let s := raiseNotice (.videoLatency n (s.feed n).latency (s.feedBase n).threshold) s
    setCondition .feedLatencyHigh (s.vu.feeds.any Feed.high) s

/-- A latency sample is applied: loaded or filtered into L, handed to the CLU, and judged (R151). -/
def applySample (n sample : Nat) (s : State) : State :=
  let q := (s.feedBase n).depth
  let s := s.onFeed n fun f =>
    { f with
      latency :=
        if f.loaded then moveTime f.latency (((sample : Int) - f.latency).tdiv (2 ^ q : Nat)) else sample
      loaded := true
      good := satInc f.good }
  judgeLatency n (handLatency n s)

/-! ## Hand-overs -/

/-- PANIC is true while the list holds an entry (R148, R149). -/
def panicCondition (s : State) : State := setCondition .panic (!s.vu.panic.isEmpty) s

/-- The VU takes a hand-over: the beat flash of a delivered beat, ended by song end to DARK (R146), the STOP
banner at HOLD entry (R147), the empty panic list of a show reset (R149, R194). A show reset raises no PANIC notice,
and where PANIC was true its change raises the CONDITION notice of R183, by the model's choice (log entry 76). -/
def takeVu (s : State) (h : HandOver) : State :=
  match h with
  | .beat g =>
    match g.showState, g.position.place with
    | .dark, _ => s.onVu fun v => { v with flash := none }
    | _, some p => s.onVu fun v => { v with flash := some ⟨p.beat, g.downbeat, g.time + g.period / 4⟩ }
    | _, none => s
  | .hold id o => s.onVu fun v => { v with banner := some (id, o), flash := none }
  | .showReset => resetAnswered (panicCondition (s.onVu fun v => { v with panic := [] }))

/-- The VU takes every waiting hand-over, in order (R158). -/
def drainVu (s : State) : State :=
  s.vu.hands.foldl takeVu (s.onVu fun v => { v with hands := [] })

/-- The SCU hands the VU the end of the STOP banner (R147, R163, R164, R170). -/
def endBanner (s : State) : State := (drainVu s).onVu fun v => { v with banner := none }

/-- What a feed output carries: black while the part is held in reset (R193), otherwise its last frame. -/
def feedOutput (s : State) (n : Nat) : Option FeedFrame := if s.inReset then none else (s.feed n).lastFrame

end Sys2Proof.Machine
end

