-- ==== Sys2Proof/Machine/TempoOps.lean ====
section
/-! DEFINITION. The Tempo Unit's shared operations: the period and its clamp (R42), the estimator (R49 to
R57), the marks and miss checks (R48), segment entry (R43), tempo overrides (R44, R45), handover (R40), entry
to IDLE (R41) and the start of the grid (R11, R41). -/

namespace Sys2Proof.Machine

/-- Raise a TEMPO notice (R59). -/
def raiseTempo (s : State) : State := raiseNotice (.tempo s.tmu.tempo s.tmu.period s.tmu.active) s

/-- Set P16, clamped to the bounds in force; a clamp that changes the value raises TEMPO_CLAMP (R42). -/
def setPeriod (p16 : Nat) (s : State) : State :=
  let c := clampNat (16 * s.tmu.pmin) (16 * s.tmu.pmax) p16
  let s := s.onTmu fun t => { t with p16 := c }
  if c = p16 then s else raiseEvent .tempoClamp s

/-- Change the tempo state; FOLLOW_LOST is true in FLYWHEEL alone (R56, R57). Its CONDITION notice is raised before the
TEMPO notice of the change, by the model's choice where FLYWHEEL is left for FIXED, LINKED or IDLE (log entry 75). -/
def setTempo (t : TempoState) (s : State) : State :=
  setCondition .followLost (t == .flywheel) (s.onTmu fun u => { u with tempo := t })

/-- The estimator clears an open or matched mark to open (R49). -/
def Mark.reopen : Mark → Mark
  | .missed => .missed
  | _ => .opened

/-- A beat whose open or matched mark is open again (R49). -/
def EmittedBeat.reopen (b : EmittedBeat) : EmittedBeat := { b with mark := b.mark.map Mark.reopen }

/-- A beat without a mark and without a miss check (R48). -/
def EmittedBeat.unmarked (b : EmittedBeat) : EmittedBeat := { b with mark := none, check := none }

/-- Clear the estimator's match state (R49). -/
def Tmu.clearEstimator (t : Tmu) : Tmu :=
  { t with
    prevMatched := none
    outliers := 0
    outlierIntervals := []
    misses := 0
    reacquire := 0
    pendingMark := t.pendingMark.map Mark.reopen
    emitted := t.emitted.map EmittedBeat.reopen
    prior := t.prior.map EmittedBeat.reopen }

/-- Remove every mark and cancel every miss check (R48). -/
def Tmu.dropMarks (t : Tmu) : Tmu :=
  { t with
    pendingMark := none
    emitted := t.emitted.getLast?.toList.map EmittedBeat.unmarked
    prior := t.prior.map EmittedBeat.unmarked }

/-- The last grid beat emitted, of this grid or, before its first beat, of an earlier one (R48). -/
def Tmu.lastBeat (t : Tmu) : Option EmittedBeat := t.emitted.getLast?.or t.prior

/-- The grid ends: no beat keeps a mark or a miss check, and the last one emitted is that of an earlier grid (R41,
R48). -/
def Tmu.endGrid (t : Tmu) : Tmu :=
  { t.dropMarks with emitted := [], prior := t.dropMarks.lastBeat }

/-- Set the next grid beat time, at most the time base's last value (R1). A time at or before now is now, and
its beat the TMU's next event (R2, R47; log entry 12). -/
def Tmu.setNext (now x : Nat) (t : Tmu) : Tmu :=
  if min x timeMax ≤ now then { t with nextBeat := some now, atOnce := true }
  else { t with nextBeat := some (min x timeMax), atOnce := false }

/-- Move the next grid beat time by a signed amount, where there is one (R43, R44, R54). -/
def moveNext (d : Int) (s : State) : State :=
  s.onTmu fun t =>
    match t.nextBeat with
    | none => t
    | some x => t.setNext s.now (moveTime x d)

/-- Change the last emitted beat. -/
def Tmu.onLast (f : EmittedBeat → EmittedBeat) (t : Tmu) : Tmu :=
  { t with emitted := t.emitted.dropLast ++ t.emitted.getLast?.toList.map f }

/-- A beat opened with a miss check half a period after it, unless that time has been reached (R48). -/
def EmittedBeat.opened (s : State) (period : Nat) (b : EmittedBeat) : EmittedBeat :=
  let check := b.time + period / 2
  if reached check s then b.unmarked else { b with mark := some .opened, check := some check }

/-- At entry to TRACKING the pending beat is open, and the last emitted beat is opened, which before the grid's own
first beat is the last one of an earlier grid (R48; log entry 70). -/
def openBeats (s : State) : State :=
  s.onTmu fun t =>
    let t :=
      if t.emitted.isEmpty then { t with prior := t.prior.map (EmittedBeat.opened s t.period) }
      else t.onLast (EmittedBeat.opened s t.period)
    { t with pendingMark := some .opened }

/-- The grid's tempo state is TRACKING or FLYWHEEL, in which beats are matched (R48). -/
def Tmu.follows (t : Tmu) : Bool := t.tempo == .tracking || t.tempo == .flywheel

/-- A handover takes effect (R40). -/
def handoverEffect (p : Podium) (s : State) : State :=
  raiseTempo (rerouteFeeds (s.onTmu fun t => { t.clearEstimator with active := p, handover := none }))

/-- A pending NEXT_BAR handover, if there is one, takes effect (R39). -/
def pendingHandover (s : State) : State :=
  match s.tmu.handover with
  | none => s
  | some p => handoverEffect p s

/-- Entry to IDLE (R41). -/
def enterIdle (s : State) : State :=
  let was := s.tmu.tempo
  let s := s.onTmu fun t =>
    { t.clearEstimator.endGrid with
      nextBeat := none, correction := 0, overridden := false, waitingLink := none, atOnce := false }
  let s := setTempo .idle (pendingHandover s)
  if was = .idle then s else raiseTempo s

/-- The TMU takes a hand-over: HOLD entry and show reset both enter IDLE (R41, R158, R194). -/
def takeTmu (s : State) (h : HandOver) : State :=
  match h with
  | .beat _ => s
  | .hold _ _ => enterIdle s
  | .showReset => resetAnswered (enterIdle s)

/-- The TMU takes every waiting hand-over, in order (R158). -/
def drainTmu (s : State) : State :=
  s.tmu.hands.foldl takeTmu (s.onTmu fun t => { t with hands := [] })

/-- Take the mode handed at a segment entry, with the new bounds already in force (R43). -/
def takeMode (fixed : Option Nat) (s : State) : State :=
  match fixed with
  | some pf => setPeriod (16 * pf) (setTempo .fixed (s.onTmu fun t => t.clearEstimator.dropMarks))
  | none =>
    if s.tmu.follows then setPeriod s.tmu.p16 s
    else openBeats (setTempo .tracking (setPeriod s.tmu.p16 (s.onTmu Tmu.clearEstimator)))

/-- A segment entry taken by the TMU (R43): bounds, mode, the end of any override, and the move of the
next grid beat by the change of period. Only the period that the entry leaves in force is held to the new bounds: the
period held before it and then replaced raises no TEMPO_CLAMP (R42; log entry 54). -/
def enterSegment (g : Segment) (s : State) : State :=
  let s := drainTmu s
  let was := s.tmu.tempo
  let old := s.tmu.period
  let s := takeMode g.fixed (s.onTmu fun t =>
    { t with pmin := g.pmin, pmax := g.pmax, overridden := false, waitingLink := none })
  let s := if s.tmu.period = old then s else moveNext ((s.tmu.period : Int) - old) s
  if s.tmu.tempo = was then s else raiseTempo s

/-- The TMU leaves IDLE at COUNT: the start time, index 0, the count period and the armed segment's bounds,
in the tempo state given (R11, R13, R41). The start time stands as COUNT gives it, also where it lies past the time
base's last value (R1; log entry 62). At entry to TRACKING the start beat, which is the pending beat, is open, and the
last beat of the earlier grid is opened (R48; log entry 70). -/
def startGrid (start period : Nat) (g : Segment) (into : TempoState) (s : State) : State :=
  let s := drainTmu s
  let s := s.onTmu fun t =>
    { t.clearEstimator.endGrid with
      nextBeat := some start
      atOnce := false
      beatIndex := 0
      pmin := g.pmin
      pmax := g.pmax }
  let s := setTempo into (setPeriod (16 * period) s)
  raiseTempo (if into = .tracking then openBeats s else s)

/-! ## TEMPO requests and actions (R44 to R46) -/

/-- TEMPO FOLLOW (R44). -/
def tempoFollow (s : State) : State :=
  let s := s.onTmu fun t => { t with overridden := true, waitingLink := none }
  raiseTempo (if s.tmu.follows then s else openBeats (setTempo .tracking (s.onTmu Tmu.clearEstimator)))

/-- TEMPO FIXED with a period (R44). In RUNNING before the start beat the next grid beat is that beat, and the model
moves it as any other (log entry 52). -/
def tempoFixed (period : Nat) (s : State) : State :=
  let old := s.tmu.period
  let s := setPeriod (16 * period) (setTempo .fixed (s.onTmu fun t =>
    { t.clearEstimator.dropMarks with overridden := true, waitingLink := none }))
  raiseTempo (moveNext ((s.tmu.period : Int) - old) s)

/-- TEMPO LINK with a period, applied at the next emission (R44, R45). -/
def tempoLink (period : Nat) (s : State) : State :=
  raiseTempo (setTempo .linked (s.onTmu fun t =>
    { t.clearEstimator.dropMarks with overridden := true, waitingLink := some period }))

/-- A TEMPO action of a fired cue: taken in RUNNING alone, without a response (R46, R71). -/
def tempoAction (fixed : Option Nat) (s : State) : State :=
  if s.scu.showState = .running then
    match fixed with
    | none => tempoFollow s
    | some p => tempoFixed p s
  else s

/-! ## Emission (R47) -/

/-- In LINKED a waiting linked period is applied (R45). -/
def applyLinked (s : State) : State :=
  match s.tmu.tempo, s.tmu.waitingLink with
  | .linked, some p => setPeriod (16 * p) (s.onTmu fun t => { t with waitingLink := none })
  | _, _ => s

/-- The emitted beat joins the open beats and the next grid beat time is set (R47 steps 4 and 5). -/
def emitBeat (g : Nat) (s : State) : State :=
  s.onTmu fun t =>
    let p := t.period
    let beat : EmittedBeat :=
      if t.follows then
        ⟨g, t.pendingMark, if t.pendingMark = some .opened then some (g + p / 2) else none⟩
      else ⟨g, none, none⟩
    { t.setNext s.now (moveTime (g + p) t.correction) with
      correction := 0
      beatIndex := t.beatIndex + 1
      emitted := (t.emitted.filter fun b => b.check.isSome) ++ [beat]
      pendingMark := if t.follows then some .opened else none }

/-! ## Capture (R36, R37, R50 to R54, R57) -/

/-- A podium's capture line. -/
def Tmu.line (t : Tmu) : Podium → CaptureLine
  | .a => t.lineA
  | .b => t.lineB

/-- Change a podium's capture line. -/
def Tmu.onLine (p : Podium) (f : CaptureLine → CaptureLine) (t : Tmu) : Tmu :=
  match p with
  | .a => { t with lineA := f t.lineA }
  | .b => { t with lineB := f t.lineB }

/-- Enter a taken edge in its podium's log, the ring of the 16 most recent (R37). -/
def logEdge (p : Podium) (e : LogEntry) (s : State) : State :=
  s.onTmu (Tmu.onLine p fun l => { l with log := (l.log ++ [e]).drop ((l.log.length + 1) - 16) })

/-- The nearest grid beat of a capture: whether it is the pending beat, its time and its mark (R50). -/
def Tmu.nearest (t : Tmu) (c : Nat) : Option (Bool × Nat × Mark) :=
  let pending := t.nextBeat.bind fun x => t.pendingMark.map fun m => (true, x, m)
  let last := t.emitted.getLast?.bind fun b => b.mark.map fun m => (false, b.time, m)
  match last, pending with
  | none, p => p
  | some l, none => some l
  | some l, some p =>
    if ((c : Int) - l.2.1).natAbs ≤ ((c : Int) - p.2.1).natAbs then some l else some p

/-- The classification of a matched capture: its disposition, its interval, and the interval accepted
(R51). -/
def Tmu.classify (t : Tmu) (c : Nat) : Disposition × Option Nat × Option Nat :=
  match t.prevMatched with
  | none => (.accepted, none, none)
  | some prev =>
    let i := c - prev
    let p := t.period
    let w := t.settings.window
    if ((i : Int) - p).natAbs ≤ p * w / 64 then (.accepted, some i, some i)
    else if ((i : Int) - 2 * p).natAbs ≤ p * w / 128 then (.doubleSplit, some i, some (i / 2))
    else (.outlier, some i, none)

/-- The filter step of an accepted interval (R52). -/
def filterStep (i : Nat) (s : State) : State :=
  let delta := (16 * i : Int) - s.tmu.p16
  setPeriod (moveTime s.tmu.p16 (delta.tdiv (2 ^ s.tmu.settings.depth : Nat))) s

/-- The mean of the last Rs outlier intervals, when every one lies within the window of it (R53). -/
def Tmu.reseedMean (t : Tmu) : Option Nat :=
  let rs := t.settings.reseed
  let last := t.outlierIntervals.drop (t.outlierIntervals.length - rs)
  let m := last.sum / rs
  if rs ≤ t.outliers ∧ last.all (fun i => decide (((i : Int) - m).natAbs ≤ m * t.settings.window / 64)) = true
  then some m else none

/-- An OUTLIER joins the outlier record and may reseed the period (R53). -/
def outlierStep (i : Nat) (s : State) : State :=
  let s := s.onTmu fun t =>
    { t with
      outlierTotal := satInc t.outlierTotal
      outliers := min 255 (t.outliers + 1)
      outlierIntervals := (t.outlierIntervals ++ [i]).drop ((t.outlierIntervals.length + 1) - 8) }
  match s.tmu.reseedMean with
  | none => s
  | some m =>
    raiseTempo (setPeriod (16 * m) (s.onTmu fun t =>
      { t with outliers := 0, outlierIntervals := [], reseeds := satInc t.reseeds }))

/-- The phase correction of a matched capture with grid error `e` (R54); `old` is the period before the
capture's step. -/
def phaseStep (pending : Bool) (g c old : Nat) (s : State) : State :=
  let p := s.tmu.period
  let corr := limitInt (p / 8 : Nat) (((c : Int) - g).tdiv (2 ^ s.tmu.settings.gain : Nat))
  if pending = false then moveNext (corr + ((p : Int) - old)) s
  else if s.tmu.emitted ≠ [] ∧ c + Config.phaseGuard < g then moveNext corr s
  else s.onTmu fun t => { t with correction := limitInt (p / 8 : Nat) (t.correction + corr) }

/-- The period step of a matched capture in TRACKING (R51 to R53). -/
def periodStep (d : Disposition) (interval accepted : Option Nat) (s : State) : State :=
  match d, interval, accepted with
  | .outlier, some i, _ => outlierStep i s
  | _, _, some i =>
    filterStep i (s.onTmu fun t =>
      { t with
        outliers := 0
        outlierIntervals := []
        splits := if d = .doubleSplit then satInc t.splits else t.splits })
  | _, _, none => s

/-- A matched capture in FLYWHEEL counts toward reacquire (R57). -/
def reacquireStep (s : State) : State :=
  let s := s.onTmu fun t => { t with reacquire := t.reacquire + 1 }
  if Config.reacquireBeats ≤ s.tmu.reacquire then
    raiseTempo (setTempo .tracking (s.onTmu fun t => { t with reacquire := 0, misses := 0 }))
  else s

/-- A capture matched to an open beat (R50 to R54, R57). -/
def takeMatched (p : Podium) (pending : Bool) (g c : Nat) (s : State) : State :=
  let (d, interval, accepted) := s.tmu.classify c
  let old := s.tmu.period
  let s := logEdge p ⟨c, d, interval, some ((c : Int) - g)⟩ s
  let s := s.onTmu fun t =>
    let t := if pending then { t with pendingMark := some .matched }
      else t.onLast fun b => { b with mark := some .matched }
    { t with misses := 0, prevMatched := some c }
  if s.tmu.tempo = .flywheel then reacquireStep s
  else phaseStep pending g c old (periodStep d interval accepted s)

/-- A capture of the active podium in TRACKING or FLYWHEEL (R50). -/
def capture (p : Podium) (c : Nat) (s : State) : State :=
  match s.tmu.nearest c with
  | none => logEdge p ⟨c, .extra, none, none⟩ s
  | some (pending, g, mark) =>
    if mark = .opened then takeMatched p pending g c s
    else
      raiseEvent .beatSlip ((logEdge p ⟨c, .extra, none, some ((c : Int) - g)⟩ s).onTmu fun t =>
        { t with extras := satInc t.extras })

/-- An edge that is taken: it is logged and, on the active podium's line in TRACKING or FLYWHEEL, handed to
the estimator (R36, R37). -/
def takeEdge (p : Podium) (s : State) : State :=
  let s := s.onTmu (Tmu.onLine p fun l => { l with lastTaken := some s.now })
  if p ≠ s.tmu.active then logEdge p ⟨s.now, .inactive, none, none⟩ s
  else if s.tmu.follows then capture p s.now s
  else logEdge p ⟨s.now, .ignoredCount, none, none⟩ s

/-- An edge less than the debounce time after the last taken edge of its line is a bounce (R36). -/
def Tmu.bounces (t : Tmu) (p : Podium) (now : Nat) : Bool :=
  match (t.line p).lastTaken with
  | none => false
  | some x => decide (now < x + t.settings.debounce)

/-! ## Miss checks (R48, R56) -/

/-- An open beat is missed: in TRACKING it counts toward FLYWHEEL, in FLYWHEEL it undoes the reacquire
count (R56). -/
def beatMissed (s : State) : State :=
  let s := raiseEvent .beatSlip (s.onTmu fun t => { t with missed := satInc t.missed })
  if s.tmu.tempo = .flywheel then s.onTmu fun t => { t with reacquire := 0 }
  else
    let s := s.onTmu fun t => { t with misses := min 16 (t.misses + 1) }
    if s.tmu.settings.cut ≤ s.tmu.misses then
      raiseTempo (setTempo .flywheel (s.onTmu fun t =>
        { t with outliers := 0, outlierIntervals := [], reacquire := 0 }))
    else s

/-- Whether a beat's miss check has been reached. -/
def EmittedBeat.checkDue (s : State) (b : EmittedBeat) : Bool := reachedOpt b.check s

/-- Some miss check has been reached. -/
def missDue (s : State) : Bool :=
  s.tmu.prior.any (EmittedBeat.checkDue s) || s.tmu.emitted.any (EmittedBeat.checkDue s)

/-- A beat whose miss check is taken: an open mark becomes missed, and the check is dropped (R48, R56). -/
def EmittedBeat.checked (b : EmittedBeat) : EmittedBeat :=
  { b with check := none, mark := if b.mark = some .opened then some .missed else b.mark }

/-- A miss check that finds its beat open makes it a missed beat (R48, R56). -/
def missIfOpen (b : EmittedBeat) (s : State) : State := if b.mark = some .opened then beatMissed s else s

/-- The first due miss check is taken, that of an earlier grid's last beat before those of the grid's own beats, which
are all later: the beat is missed if it is still open, and the check is dropped (R48, R56). -/
def takeMiss (s : State) : State :=
  match s.tmu.prior.filter (EmittedBeat.checkDue s), s.tmu.emitted.findIdx? (EmittedBeat.checkDue s) with
  | some b, _ => missIfOpen b (s.onTmu fun t => { t with prior := some b.checked })
  | none, some i =>
    missIfOpen (s.tmu.emitted.getD i default)
      (s.onTmu fun t => { t with emitted := t.emitted.modify i EmittedBeat.checked })
  | none, none => s

end Sys2Proof.Machine
end

