-- ==== Sys2Proof/Machine/DispatchOps.lean ====
section
/-! DEFINITION. The shared operations of the Patch Dispatch Unit (R79 to R100) and of the station table it
works with (R113 to R117): creating, superseding, recomputing, sending and closing entries; success, failure,
cut and entry to JOINING. -/

namespace Sys2Proof.Machine

/-! ## Tables -/

/-- The dispatch queue of a station. -/
def State.queue (s : State) (st : Nat) : List Entry := nth1 s.pdu.queues st

/-- Change the dispatch queue of a station. -/
def State.onQueue (st : Nat) (f : List Entry → List Entry) (s : State) : State :=
  s.onPdu fun d => { d with queues := upd1 d.queues st f }

/-- Change the closure counters of a station (R100). -/
def State.onClosures (st : Nat) (f : Closures → Closures) (s : State) : State :=
  s.onPdu fun d => { d with closures := upd1 d.closures st f }

/-- The record of a station (R113). -/
def State.station (s : State) (st : Nat) : Station := nth1 s.pbc.stations st

/-- Change the record of a station. -/
def State.onStation (st : Nat) (f : Station → Station) (s : State) : State :=
  s.onPbc fun b => { b with stations := upd1 b.stations st f }

/-- Set the current patch of a station's layer (R91, R93, R95), to any value that a report carries (R112; log entry
59). -/
def setPatch (st layer : Nat) (p : Option Nat) (s : State) : State :=
  s.onStation st fun r => { r with patches := r.patches.set layer p }

/-- An entry whose patch change is on the bus. -/
def Entry.isOpen (e : Entry) : Bool := e.state == .sent || e.state == .acked

/-- Queue order: land time, then sequence (R79). -/
def Entry.before (a b : Entry) : Bool :=
  decide (a.landTime < b.landTime) || (a.landTime == b.landTime && decide (a.seq.toNat ≤ b.seq.toNat))

/-- Put an entry at its place in queue order (R79). -/
def insertEntry (e : Entry) : List Entry → List Entry
  | [] => [e]
  | d :: ds => if e.before d then e :: d :: ds else d :: insertEntry e ds

/-- A queue in the order of R79. -/
def sortQueue (q : List Entry) : List Entry := q.foldl (fun acc e => insertEntry e acc) []

/-- Change the entry of one sequence number in a station's queue. -/
def State.onEntry (st : Nat) (seq : Count32) (f : Entry → Entry) (s : State) : State :=
  s.onQueue st fun q => q.map fun e => if e.seq = seq then f e else e

/-- Take one entry out of its station's queue. -/
def removeEntry (e : Entry) (s : State) : State := s.onQueue e.station fun q => q.erase e

/-! ## Resolution count (R6, R100) -/

/-- One resolution entry fewer is outstanding; at zero the SCU is told (R6, R7, R100). -/
def decOutstanding (s : State) : State :=
  let s := s.onPdu fun d => { d with outstanding := d.outstanding - 1 }
  if s.pdu.outstanding = 0 then armedIfResolved s else s

/-- A closed or superseded entry of origin RESOLUTION is no longer outstanding. -/
def resolutionClosed (e : Entry) (s : State) : State :=
  if e.origin = .resolution then decOutstanding s else s

/-- The PATCH notice of an entry's outcome (R101). -/
def raisePatch (e : Entry) (o : PatchOutcome) (s : State) : State :=
  raiseNotice (.patch e.station e.layer e.patch o (some e.origin) e.late) s

/-- An entry closes as discarded: its notice is raised and then, of origin RESOLUTION, the count of outstanding entries
falls, which may make the show ARMED (R96, R97, R98). -/
def closeDiscarded (s : State) (e : Entry) : State :=
  let s := removeEntry e s
  let s := s.onClosures e.station fun c => { c with discarded := c.discarded + 1 }
  resolutionClosed e (raisePatch e .discarded s)

/-- Every entry of a station's queue closes as discarded (R98, R114), in queue order by the model's choice (log entry
75). -/
def discardQueue (st : Nat) (s : State) : State := (s.queue st).foldl closeDiscarded s

/-! ## Stations: success, failure, cut (R116, R117) -/

/-- Raise the STATION notice of a station's state (R123). -/
def raiseStation (st : Nat) (reason : StationReason) (s : State) : State :=
  raiseNotice (.station st (s.station st).state reason) s

/-- STATION_CUT is true while a station is CUT (R117). -/
def stationCutCondition (s : State) : State :=
  setCondition .stationCut (s.pbc.stations.any fun r => r.state == .cut) s

/-- A station enters CUT (R98, R117). -/
def enterCut (st : Nat) (s : State) : State :=
  let s := s.onStation st fun r =>
    { r with
      state := .cut
      starved := false
      lossCounter := 0
      nextProbe := none
      nextPoll := some (s.now + Config.pollCadence)
      cuts := satInc r.cuts }
  raiseStation st .cut (stationCutCondition (discardQueue st s))

/-- A success of a station (R116). -/
def stationSuccess (st : Nat) (s : State) : State :=
  match (s.station st).state with
  | .joining => s.onStation st fun r => { r with streak := 0 }
  | .ready => s.onStation st fun r => { r with streak := 0 }
  | .suspect =>
    raiseStation st .success (s.onStation st fun r => { r with state := .ready, streak := 0 })
  | _ => s

/-- A failure of a station (R116). -/
def stationFailure (st : Nat) (s : State) : State :=
  match (s.station st).state with
  | .joining =>
    let s := s.onStation st fun r => { r with streak := r.streak + 1, goodProbes := 0 }
    if 3 ≤ (s.station st).streak then enterCut st s else s
  | .ready =>
    raiseStation st .failure (s.onStation st fun r => { r with state := .suspect, streak := 1 })
  | .suspect =>
    let s := s.onStation st fun r => { r with streak := r.streak + 1 }
    if 3 ≤ (s.station st).streak then enterCut st s else s
  | _ => s

/-- An entry closes as failed (R94). -/
def closeFailed (e : Entry) (s : State) : State :=
  let s := removeEntry e s
  let s := s.onClosures e.station fun c => { c with failed := c.failed + 1 }
  let s := stationFailure e.station (raiseEvent .patchFail s)
  raisePatch e .failed (resolutionClosed e s)

/-- An entry closes as applied with its patch recorded (R91). -/
def closeApplied (e : Entry) (s : State) : State :=
  let s := removeEntry e s
  let s := s.onClosures e.station fun c => { c with applied := c.applied + 1 }
  let s := stationSuccess e.station (setPatch e.station e.layer (some e.patch) s)
  raisePatch e .applied (resolutionClosed e s)

/-! ## Creating entries (R81 to R83) -/

/-- The land handed with a patch change (R69, R83). -/
inductive LandAsked
  | now
  | nextBeat
  | nextBar
  | position (place : LandPlace) (predicted : Nat)
  deriving DecidableEq, Repr

/-- A patch change handed to the PDU (R81). -/
structure Change where
  station : Nat
  layer : Nat
  patch : Nat
  origin : EntryOrigin
  land : LandAsked
  deriving DecidableEq, Repr

/-- The land form, place and time of a new entry (R83). The sum of a land time is kept as it stands, also past the time
base's last value, by the model's choice (log entry 88). A negative m - b, which only a storage fault leaves, counts as
0 (log entry 93). -/
def landOf (s : State) : LandAsked → LandForm × Option LandPlace × Nat
  | .now => (.now, none, s.now)
  | .nextBeat =>
    match s.tmu.nextBeat with
    | none => (.now, none, s.now)
    | some n => (.time, none, n)
  | .nextBar =>
    match s.tmu.nextBeat with
    | none => (.now, none, s.now)
    | some n =>
      if s.tmu.emitted = [] then (.nextDownbeat, none, n)
      else
        let m := (s.segment.map Segment.meter).getD 1
        let b := (s.scu.position.place.map Place.beat).getD 1
        (.nextDownbeat, none, n + (m - b) * s.tmu.period)
  | .position place predicted => (.position, some place, predicted)

/-- Two places of POSITION entries with the same song, bar, beat and pass (R82). -/
def LandPlace.sameLand (a b : LandPlace) : Bool :=
  a.song == b.song && a.bar == b.bar && a.beat == b.beat && a.pass == b.pass

/-- A QUEUED entry that a change with this land supersedes (R82). An entry of form NEXT_DOWNBEAT counts as waiting for
the change's downbeat also where a rejoin returned it to QUEUED after its own downbeat had passed, by the model's choice
(log entry 86). -/
def Entry.supersededBy (e : Entry) (layer : Nat) (form : LandForm) (place : Option LandPlace)
    (time : Nat) : Bool :=
  e.state == .queued && e.layer == layer && e.form == form &&
    (match form with
    | .now => true
    | .time => e.landTime == time
    | .position =>
      match e.landPlace, place with
      | some a, some b => a.sameLand b
      | _, _ => false
    | .nextDownbeat => true)

/-- The outstanding count changes by a new entry's origin. -/
def resolutionCreated (o : EntryOrigin) (s : State) : State :=
  if o = .resolution then s.onPdu fun d => { d with outstanding := d.outstanding + 1 } else s

/-- A change the PDU refuses at creation (R81), and so one for a station outside 1-14, which only a storage fault leaves
and whose counter is nobody's, by the model's choice (log entry 93). Its notice carries no origin, as no entry was involved (R101), and
the late flag no, which an entry alone could hold (log entry 55). -/
def refuseChange (c : Change) (s : State) : State :=
  let s := s.onClosures c.station fun k => { k with refused := k.refused + 1 }
  raiseNotice (.patch c.station c.layer c.patch .refused none false) (raiseEvent .patchFail s)

/-- A change takes the place of a QUEUED entry (R82). -/
def supersede (old new : Entry) (s : State) : State :=
  let s := s.onQueue old.station fun q => sortQueue (new :: q.erase old)
  let s := s.onClosures old.station fun k =>
    { k with superseded := k.superseded + 1, created := k.created + 1 }
  raisePatch old .superseded (resolutionClosed old (resolutionCreated new.origin s))

/-- The PDU takes a patch change: refused, superseding, or created (R81 to R83). Of two QUEUED entries that it could
supersede, which a rejoin can leave, the first in queue order goes, by the model's choice (log entry 58). -/
def createEntry (c : Change) (s : State) : State :=
  let st := (s.station c.station).state
  if st = .absent ∨ st = .cut then refuseChange c s
  else
    let (form, place, time) := landOf s c.land
    let new : Entry :=
      { station := c.station, layer := c.layer, patch := c.patch, origin := c.origin, form := form
        landPlace := place, landTime := time, seq := s.pdu.nextSeq }
    match (s.queue c.station).find? fun e => e.supersededBy c.layer form place time with
    | some old => supersede old { new with seq := old.seq } s
    | none =>
      if Config.queueMax ≤ (s.queue c.station).length then refuseChange c s
      else
        let s := s.onQueue c.station (insertEntry new)
        let s := s.onPdu fun d => { d with nextSeq := d.nextSeq + 1 }
        let s := s.onClosures c.station fun k => { k with created := k.created + 1 }
        resolutionCreated c.origin s

/-! ## Keeping land times with the grid (R84, R85) -/

/-- The land time and form of a QUEUED entry recomputed at a delivered grid beat, with the TMU's next grid
beat time `n` and period `p`; a beat delivered in HOLD recomputes no land (R84, R85, R158). The sum `n + k·p` is kept as
it stands, also past the time base's last value, by the model's choice (log entry 88). R85's m is the meter of the
delivered position's segment, also where the SCU has stepped on since, as the model reads the rule (log entry 87); a
negative m - b, which only a storage fault leaves, counts as 0, by the model's choice (log entry 93). A
NEXT_DOWNBEAT entry that a rejoin returned to QUEUED and that meets a later downbeat is fixed at it as at the first
(log entry 57). -/
def Entry.recompute (st : Store) (g : GridBeat) (n p : Nat) (e : Entry) : Entry :=
  let fixed : Entry := { e with landTime := g.time, form := .time, landPlace := none }
  if e.state ≠ .queued ∨ g.showState = .hold then e
  else
    match e.form, e.landPlace, g.position.place with
    | .position, some l, some d =>
      if g.showState = .running ∧ d.song = l.song ∧ d.segment = l.segment ∧ g.position.pass = l.pass then
        match st.segmentOf d with
        | some x =>
          let k := x.beatIndex l.bar l.beat - x.beatIndex d.bar.toNat d.beat
          if 1 ≤ k then { e with landTime := n + (k.toNat - 1) * p } else fixed
        | none => fixed
      else fixed
    | .position, _, _ => fixed
    | .nextDownbeat, _, place =>
      if g.downbeat then fixed
      else if g.showState = .countIn ∨ g.showState = .running then
        let m := ((place.bind st.segmentOf).map Segment.meter).getD 1
        let b := (place.map Place.beat).getD 1
        { e with landTime := n + (m - b) * p }
      else fixed
    | _, _, _ => e

/-- The PDU recomputes every queue at a delivered grid beat (R84, R85). -/
def recomputeLands (g : GridBeat) (s : State) : State :=
  let n := s.tmu.nextBeat.getD (Config.freeBeatTime s.freeIdx)
  let s := if s.tmu.nextBeat.isNone then s.nextFree else s
  s.onPdu fun d =>
    { d with queues := d.queues.map fun q => sortQueue (q.map (Entry.recompute s.store g n s.tmu.period)) }

/-! ## Hand-overs (R96, R99) -/

/-- The HOLD entry on one queue: QUEUED entries are discarded; open CUE entries with a future land get a
CANCEL; no open CUE entry is resent any more, in HOLD or after it (R90, R96). A land time past the time base's last
value is in the future there too, by the model's choice (log entry 88). -/
def holdQueue (s : State) (st : Nat) : State :=
  let s := ((s.queue st).filter fun e => e.state == .queued).foldl closeDiscarded s
  s.onQueue st fun q => q.map fun e =>
    if e.origin = .cue then
      if s.now < e.landTime then
        { e with
          resendDue := false, held := true, cancelPending := true, cancelOffered := true, cancelResends := 0 }
      else { e with resendDue := false, held := true }
    else e

/-- The PDU takes a hand-over (R84, R85, R96, R99). At HOLD entry the queues are taken by ascending station and each in
queue order, by the model's choice (log entry 75). -/
def takePdu (s : State) (h : HandOver) : State :=
  match h with
  | .beat g => recomputeLands g s
  | .hold _ _ => (upTo 14).foldl holdQueue s
  | .showReset =>
    resetAnswered (s.onPdu fun d =>
      { d with
        queues := d.queues.map fun _ => []
        outstanding := 0
        closures := d.closures.map fun _ => default })

/-- The PDU takes every waiting hand-over, in order (R158). -/
def drainPdu (s : State) : State :=
  s.pdu.hands.foldl takePdu (s.onPdu fun d => { d with hands := [] })

/-! ## Sending (R86, R88) -/

/-- A QUEUED entry is sendable (R86). -/
def Entry.sendable (s : State) (e : Entry) : Bool :=
  let r := s.station e.station
  e.state == .queued && (r.state == .ready || r.state == .suspect) &&
    reached (e.landTime - (r.lead + r.delay + Config.sendWindow)) s &&
    !((s.queue e.station).any fun d => d.layer == e.layer && d.isOpen) &&
    (s.scu.showState != .hold || e.origin == .resolution)

/-- A SENT entry due for resend; in HOLD an entry of origin CUE is not resent, nor is one that a HOLD entry
found open (R89, R90, R96). -/
def Entry.resendable (s : State) (e : Entry) : Bool :=
  e.state == .sent && e.resendDue && !e.held && (s.scu.showState != .hold || e.origin == .resolution)

/-- The entry the PDU offers for a station: the first in queue order that is sendable or due for resend
(R86). -/
def State.offer (s : State) (st : Nat) : Option Entry :=
  (s.queue st).find? fun e => e.sendable s || e.resendable s

/-- The PDU forms the APPLY of an entry sent now (R88). A land time past the time base's last value is held against
now as it stands, by the model's choice (log entry 88). -/
def applyFrame (s : State) (e : Entry) : OutFrame :=
  let r := s.station e.station
  if e.form ≠ .now ∧ s.now + r.lead + r.delay ≤ e.landTime then
    .apply e.layer e.patch (some (mod32 ((e.landTime : Int) + r.offset.getD 0)))
  else .apply e.layer e.patch none

/-- An entry becomes SENT with its deadlines; a late send sets the late flag, counted once (R88). A land time past the
time base's last value is held against now as it stands, by the model's choice (log entry 88). -/
def markSent (e : Entry) (s : State) : State :=
  let r := s.station e.station
  let inTime := decide (s.now + r.lead + r.delay ≤ e.landTime)
  let late := e.form != .now && !inTime
  let land := if e.form != .now && inTime then e.landTime else s.now + r.lead + r.delay
  let newlyLate := late && !e.late
  let s := s.onEntry e.station e.seq fun x =>
    { x with
      state := .sent
      late := x.late || late
      resendDue := false
      ackDeadline := some (s.now + Config.replyWindow)
      doneDeadline := some (land + Config.doneGrace) }
  if newlyLate then
    raiseEvent .patchLate (s.onClosures e.station fun k => { k with late := k.late + 1 })
  else s

/-! ## Replies and rejoin (R89, R90, R97, R98) -/

/-- The entry an APPLY's reply is for: still SENT, from that very send (R89). -/
def State.sentEntry (s : State) (x : Exchange) : Option Entry :=
  (s.queue x.station).find? fun e =>
    e.seq == x.seq && e.state == .sent && e.ackDeadline == some (x.sendTime + Config.replyWindow)

/-- The entry a CANCEL's reply is for: open with cancel pending (R97). -/
def State.cancelEntry (s : State) (x : Exchange) : Option Entry :=
  (s.queue x.station).find? fun e => e.seq == x.seq && e.isOpen && e.cancelPending

/-- ACK to an APPLY (R89). -/
def applyAcked (x : Exchange) (s : State) : State :=
  match s.sentEntry x with
  | none => s
  | some e =>
    stationSuccess e.station
      (s.onEntry e.station e.seq fun d => { d with state := .acked, ackDeadline := none })

/-- NAK or no reply to an APPLY. An entry of origin CUE in HOLD, and one that a HOLD entry found open, drops its
ACK deadline and waits for its closure (R89, R90; log entry 21 for the NAK). -/
def applyUnanswered (x : Exchange) (s : State) : State :=
  match s.sentEntry x with
  | none => s
  | some e =>
    if e.held = true ∨ s.scu.showState = .hold ∧ e.origin = .cue then
      s.onEntry e.station e.seq fun d => { d with ackDeadline := none, held := true }
    else if e.resends < s.pdu.resendLimit then
      s.onEntry e.station e.seq fun d =>
        { d with resends := d.resends + 1, resendDue := true, ackDeadline := none }
    else closeFailed e s

/-- ACK to a CANCEL: the change is withdrawn (R97). -/
def cancelAcked (x : Exchange) (s : State) : State :=
  match s.cancelEntry x with
  | none => s
  | some e => closeDiscarded s e

/-- No reply to a CANCEL (R97). A resend count above a limit lowered since waits as an equal one (log entry 60). -/
def cancelUnanswered (x : Exchange) (s : State) : State :=
  match s.cancelEntry x with
  | none => s
  | some e =>
    if e.cancelResends < s.pdu.resendLimit then
      s.onEntry e.station e.seq fun d =>
        { d with cancelResends := d.cancelResends + 1, cancelOffered := true }
    else s

/-- A station's open entries at its rejoin: back to QUEUED, or, of origin CUE in HOLD, discarded (R98). Several that are
discarded go in queue order, by the model's choice (log entry 75). -/
def rejoinQueue (st : Nat) (s : State) : State :=
  let gone := (s.queue st).filter fun e =>
    e.isOpen && s.scu.showState == .hold && e.origin == .cue
  let s := gone.foldl closeDiscarded s
  s.onQueue st fun q => q.map fun e =>
    if e.isOpen then
      { e with
        state := .queued, resends := 0, cancelPending := false, cancelOffered := false
        ackDeadline := none, doneDeadline := none, resendDue := false, held := false }
    else e

/-- Entry to JOINING, with the JOIN's lead or the lead kept (R115). STATION_CUT's CONDITION notice is raised before
the STATION notice, by the model's choice (log entry 75). -/
def enterJoining (st : Nat) (lead : Option Nat) (reason : StationReason) (s : State) : State :=
  let s := s.onStation st fun r =>
    { r with
      state := .joining
      lead := match lead with
        | some x => min x Config.leadMax
        | none => r.lead
      offset := none
      patches := List.replicate 8 none
      streak := 0
      goodProbes := 0
      lossCounter := 0
      starved := false
      nextProbe := some s.now
      nextPoll := none }
  let s := s.onPbc fun b => { b with atOnce := true }
  raiseStation st reason (stationCutCondition s)

/-! ## Done deadlines (R92) -/

/-- An open entry's done deadline has been reached (R92). -/
def Entry.doneDue (s : State) (e : Entry) : Bool := e.isOpen && reachedOpt e.doneDeadline s

end Sys2Proof.Machine
end

