-- ==== Sys2Proof/Machine/BusOps.lean ====
section
/-! DEFINITION. The Pit Bus Controller's shared operations: the outbound arbiter and the header (R103, R108),
reply windows (R104, R105), bus errors (R106), loss tallies (R107), the intake of reports (R111) and the probe
sample (R120, R121). -/

namespace Sys2Proof.Machine

/-! ## Errors and tallies -/

/-- A bus error: counted, and BUS_ERROR raised (R106). -/
def busError (s : State) : State :=
  raiseEvent .busError (s.onPbc fun b => { b with busErrors := b.busErrors + 1 })

/-- A station the bus polls and probes: JOINING, READY or SUSPECT. -/
def StationState.joined : StationState → Bool
  | .joining | .ready | .suspect => true
  | _ => false

/-- The loss counter takes a reply's tally; at 8 or more a joined station is starved (R107). -/
def tallyReply (st tally : Nat) (s : State) : State :=
  s.onStation st fun r =>
    { r with
      lossCounter := min 255 tally
      starved := r.starved || (decide (8 ≤ tally) && r.state.joined) }

/-- An attention or a POLL_REPLY adds its tally to the loss total and clears the loss counter (R107). -/
def tallyWon (st tally : Nat) (s : State) : State :=
  s.onStation st fun r =>
    { r with lossTotal := r.lossTotal + BitVec.ofNat 32 tally, lossCounter := 0, starved := false }

/-- An address the bus gives to a station (06, Bus and frames). -/
def isStation (st : Nat) : Bool := decide (1 ≤ st) && decide (st ≤ 14)

/-! ## The outbound arbiter (R108) -/

/-- A frame the PBC may begin, with the entry an APPLY or CANCEL is for. -/
structure Candidate where
  station : Nat
  frame : OutFrame
  entry : Option Entry
  deriving DecidableEq, Repr

/-- The first entry with the earliest land time, of entries listed by ascending station (R108) and within a station in
queue order, which decides between two of one station and one land time (log entry 61). -/
def earliest : List Entry → Option Entry
  | [] => none
  | e :: es =>
    match earliest es with
    | none => some e
    | some d => if e.landTime ≤ d.landTime then some e else some d

/-- A POLL to a starved station (R107, R108 order 1). -/
def starvedPoll (s : State) : Option Candidate :=
  ((upTo 14).find? fun n => (s.station n).starved && (s.station n).state.joined).map fun n =>
    ⟨n, .poll false, none⟩

/-- A CANCEL offered by the PDU (R96, R108 order 2). Of two for one station with one land time, the first in queue order
(log entry 61). -/
def cancelCandidate (s : State) : Option Candidate :=
  (earliest ((upTo 14).flatMap fun n =>
    (s.queue n).filter fun e => e.isOpen && e.cancelPending && e.cancelOffered)).map fun e =>
    ⟨e.station, .cancel e.layer e.patch, some e⟩

/-- An APPLY offered by the PDU (R86, R108 order 3). -/
def applyCandidate (s : State) : Option Candidate :=
  (earliest ((upTo 14).filterMap s.offer)).map fun e => ⟨e.station, applyFrame s e, some e⟩

/-- A station's probe is due (R119). -/
def probeIsDue (s : State) (n : Nat) : Bool :=
  (s.station n).state.joined && reachedOpt (s.station n).nextProbe s

/-- A due PROBE, JOINING stations first (R108 order 4, R119). -/
def probeCandidate (s : State) : Option Candidate :=
  let due := (upTo 14).filter (probeIsDue s)
  ((due.filter fun n => (s.station n).state == .joining) ++
    (due.filter fun n => (s.station n).state != .joining)).head?.map fun n => ⟨n, .probe, none⟩

/-- A recovery poll of a CUT station in the roster is due (R118). -/
def recoveryIsDue (s : State) (n : Nat) : Bool :=
  (s.station n).state == .cut && s.store.roster.contains n && reachedOpt (s.station n).nextPoll s

/-- A due recovery POLL (R108 order 5, R118). -/
def recoveryCandidate (s : State) : Option Candidate :=
  ((upTo 14).find? (recoveryIsDue s)).map fun n => ⟨n, .poll true, none⟩

/-- The frame the arbiter chooses (R108); after start-up the broadcast poll comes first (R109). -/
def arbiter (s : State) : Option Candidate :=
  if s.pbc.broadcastDue then some ⟨0, .broadcastPoll, none⟩
  else (starvedPoll s).orElse fun _ => (cancelCandidate s).orElse fun _ =>
    (applyCandidate s).orElse fun _ => (probeCandidate s).orElse fun _ => recoveryCandidate s

/-- The bus is free: no exchange, no attention on it, and quiet since the last exchange (R104). -/
def busIsFree (s : State) : Bool :=
  s.pbc.exchange.isNone && s.pbc.attention.isNone && reached s.pbc.freeAt s

/-! ## Beginning a frame (R103, R104) -/

/-- The state after the PBC's frame has won its header now: what its owner takes at the send time (R88,
R97, R109, R118, R119), and the reply window opened (R104). -/
def sendFrame (c : Candidate) (s : State) : State :=
  let s := s.onPbc fun b => { b with lastFrame := some (c.station, c.frame), atOnce := false }
  match c.frame, c.entry with
  | .broadcastPoll, _ =>
    s.onPbc fun b =>
      { b with broadcastDue := false, freeAt := s.now + OutFrame.broadcastPoll.time + Config.busQuiet }
  | f, e =>
    let s := s.onPbc fun b => { b with exchange := some ⟨c.station, f, s.now, (e.map Entry.seq).getD 0⟩ }
    let s := s.onStation c.station fun r => { r with framesSent := r.framesSent + 1 }
    match f, e with
    | .apply .., some e => markSent e s
    | .cancel .., some e => s.onEntry e.station e.seq fun d => { d with cancelOffered := false }
    | .probe, _ =>
      s.onStation c.station fun r =>
        { r with
          nextProbe := some (s.now +
            if r.state = .joining then Config.probeJoining else Config.probeReady) }
    | .poll true, _ => s.onStation c.station fun r => { r with nextPoll := some (s.now + Config.pollCadence) }
    | _, _ => s

/-- The station whose header wins among those that begin together: the lowest address (R103). -/
def lowestRival (rivals : List Nat) : Option Nat := (rivals.filter isStation).min?

/-- The bus carries the header of the station that won, if one began (R103). -/
def holdBus (rivals : List Nat) (s : State) : State :=
  s.onPbc fun b => { b with attention := (lowestRival rivals).orElse fun _ => b.attention }

/-- Nothing is on the line: no exchange, no header, and at most the 20 µs of quiet after the last exchange are
left before the bus is free (R104). -/
def busIsQuiet (s : State) : Bool :=
  s.pbc.exchange.isNone && s.pbc.attention.isNone && reached (s.pbc.freeAt - Config.busQuiet) s

/-- On a free bus the PBC begins the arbiter's choice together with the headers of the stations `rivals`; the
lowest header wins, and if the PBC loses, or has nothing to send, the winning station's frame holds the bus. A
header begun in the quiet time after an exchange holds the bus too, which is then not free (R103, R104, R108). -/
def beginOnFreeBus (rivals : List Nat) (s : State) : State :=
  if busIsFree s then
    match arbiter s with
    | none => holdBus rivals s
    | some c =>
      if (rivals.filter isStation).all fun n => decide (outHeader c.station < attentionHeader n) then sendFrame c s
      else holdBus rivals s
  else if busIsQuiet s then holdBus rivals s
  else s

/-! ## Reply windows (R104, R105) -/

/-- The limit of an exchange's reply window (R104). -/
def Exchange.limit (x : Exchange) : Nat :=
  x.sendTime + if x.frame = .probe then Config.probeWindow else Config.replyWindow

/-- The exchange ends now: the bus is quiet, and free 20 µs later (R104). -/
def endExchange (s : State) : State :=
  s.onPbc fun b =>
    { b with exchange := none, attention := none, freeAt := s.now + Config.busQuiet }

/-- A frame that is discarded ends an open window, whose no reply is told at its limit (R104, R105). -/
def endWindowLost (s : State) : State :=
  let lost := s.pbc.exchange.toList
  endExchange (s.onPbc fun b => { b with lostWindows := b.lostWindows ++ lost })

/-- A frame discarded as a bus error, in or outside a window (R105, R106). -/
def discardFrame (s : State) : State := busError (endWindowLost s)

/-- The bus carries the header of another station, so that no frame of this one can come (R103; log entry 44). -/
def State.busHeldByOther (s : State) (st : Nat) : Bool :=
  isStation st && s.pbc.attention.any fun w => w != st

/-- What a reply-kind frame from a station is (R105): the reply to the open exchange, a frame that does not
fit the open window, a late reply, or a frame that cannot be, as the bus carries another station's header. -/
inductive ReplyFate
  | reply (x : Exchange)
  | unfit
  | late
  | cannotBe
  deriving DecidableEq, Repr

/-- The fate of a reply-kind frame, with the test of the kinds the outbound frame takes (R105). -/
def replyFate (s : State) (st : Nat) (takes : OutFrame → Bool) : ReplyFate :=
  match s.pbc.exchange with
  | none => if s.busHeldByOther st then .cannotBe else if isStation st then .late else .unfit
  | some x => if x.station = st ∧ takes x.frame = true then .reply x else .unfit

/-- A late reply is discarded and counted at its station, and the bus is quiet after it (R104, R105). -/
def lateReply (st : Nat) (s : State) : State :=
  endExchange (s.onStation st fun r => { r with lateReplies := satInc r.lateReplies })

/-- A frame that takes ACK and NAK (R105). -/
def OutFrame.takesAck : OutFrame → Bool
  | .apply .. | .cancel .. => true
  | _ => false

/-- A frame that takes POLL_REPLY (R105). -/
def OutFrame.takesPollReply : OutFrame → Bool
  | .poll _ => true
  | _ => false

/-! ## Intake of reports (R111) -/

/-- A report is one the PBC answers NAK_REPORT (R111). -/
def refusesReport (s : State) (st : Nat) (r : Report) : Bool :=
  !(s.store.roster.contains st) ||
    ((s.station st).state == .absent &&
      match r with
      | .done .. | .fault .. => true
      | _ => false) ||
    decide (Config.reportMax ≤ s.pbc.reports.length)

/-- The PBC's answer to a report, a frame to the station, ends the exchange (R104, R123). The model counts it among
the frames sent, though it contends for no header (log entry 72). -/
def answerReport (st : Nat) (f : OutFrame) (s : State) : State :=
  (s.onStation st fun r => { r with framesSent := r.framesSent + 1 }).onPbc fun b =>
    { b with
      lastFrame := some (st, f)
      exchange := none
      attention := none
      freeAt := s.now + f.time + Config.busQuiet }

/-- An unlisted station's JOIN: a STATION notice to the Rig Link (R111, R112). -/
def raiseUnlisted (st : Nat) (s : State) : State := raiseStation st .unlisted s

/-- A report taken intact is queued and answered ACK_REPORT, or answered NAK_REPORT and counted (R111). -/
def intakeReport (st : Nat) (r : Report) (s : State) : State :=
  if refusesReport s st r then
    let s := s.onStation st fun x => { x with refusedReports := satInc x.refusedReports }
    let s :=
      match s.store.roster.contains st, r with
      | false, .join _ =>
        raiseUnlisted st (s.onPbc fun b => { b with unlistedJoins := satInc b.unlistedJoins })
      | _, _ => s
    answerReport st .nakReport s
  else
    let s := s.onStation st fun x => { x with reportsTaken := x.reportsTaken + 1 }
    answerReport st .ackReport (s.onPbc fun b => { b with reports := b.reports ++ [(st, r)] })

/-! ## Probes (R120, R121) -/

/-- The sample of a probe reply, or none when it is discarded: the offset and the delay (R120). -/
def probeSample (t1 t2 t3 t4 : Nat) : Option (Int × Int) :=
  let trip := (t4 : Int) - t1
  let hold := signed32 ((t3 : Int) - t2)
  let d := (trip - hold).tdiv 2
  if (Config.roundTripMax : Int) < trip ∨ hold < 0 ∨ d < 0 then none
  else some (signed32 ((t2 : Int) - t1 - d), d)

/-- Load or filter a station's offset and delay with a good sample (R121). A record without an offset is loaded in every
state of its station, in ABSENT too (log entry 63). -/
def Station.filterSample (depth : Nat) (o d : Int) (r : Station) : Station :=
  match r.offset with
  | none => { r with offset := some o, delay := d.toNat }
  | some old =>
    { r with
      delay := moveTime r.delay ((d - r.delay).tdiv (2 ^ depth : Nat))
      offset := some (signed32 (old + (signed32 (o - old)).tdiv (2 ^ depth : Nat))) }

/-- A good probe: the filter, the good-probe count in JOINING, and READY at the fourth (R121). -/
def goodProbe (st : Nat) (o d : Int) (s : State) : State :=
  let s := s.onStation st fun r =>
    let r := { r.filterSample s.pbc.probeDepth o d with goodTotal := r.goodTotal + 1 }
    if r.state = .joining then { r with goodProbes := r.goodProbes + 1 } else r
  if (s.station st).state = .joining ∧ 4 ≤ (s.station st).goodProbes then
    raiseStation st .goodProbes (s.onStation st fun r => { r with state := .ready, streak := 0 })
  else s

/-- A PROBE_REPLY's sample is taken, in every state of its station: kept, or discarded and counted (R120). -/
def takeSample (st t1 t2 t3 t4 : Nat) (s : State) : State :=
  match probeSample t1 t2 t3 t4 with
  | none => s.onStation st fun r => { r with discarded := satInc r.discarded }
  | some (o, d) => goodProbe st o d s

/-! ## No reply (R104) -/

/-- A window ended without a reply is told to its owner (R89, R97, R104, R110, R116, R118). The no-reply counter of R123
counts the window here, at its limit, also where a discarded frame ended it early, by the model's choice (log entry
94). -/
def tellNoReply (x : Exchange) (s : State) : State :=
  let s := s.onStation x.station fun r => { r with noReplies := satInc r.noReplies }
  match x.frame with
  | .apply .. => applyUnanswered x s
  | .cancel .. => cancelUnanswered x s
  | .probe => stationFailure x.station s
  | .poll false => stationFailure x.station s
  | _ => s

/-- A reply window has reached its limit without a reply: a lost one, or the open one (R104). -/
def noReplyDue (s : State) : Bool :=
  s.pbc.lostWindows.any (fun x => reached x.limit s) ||
    (match s.pbc.exchange with
    | none => false
    | some x => reached x.limit s)

end Sys2Proof.Machine
end

