-- ==== Sys2Proof/Machine/Layout.lean ====
section
/-! DEFINITION. The record layouts of the store image (R188), as bytes and read back from bytes, and the store
image itself. A reader gives the record and whether every enumerated byte of it is one of its values; it
gives none where the bytes are not of a length the layout allows. -/

namespace Sys2Proof.Machine

/-! ## Reading fields -/

/-- The next `n` bytes as a number, and the bytes after them. -/
def field (n : Nat) (bs : List Byte) : Option (Nat × List Byte) :=
  if n ≤ bs.length then some (beVal (bs.take n), bs.drop n) else none

/-- An optional field of `n` bytes behind its presence byte (R184). -/
def optField (n : Nat) (bs : List Byte) : Option (Option Nat × List Byte) :=
  match field 1 bs with
  | some (0, r) => some (none, r)
  | some (1, r) => (field n r).map fun x => (some x.1, x.2)
  | _ => none

/-- `n` items read one after the other. -/
def items {α : Type} (f : List Byte → Option (α × List Byte)) : Nat → List Byte → Option (List α × List Byte)
  | 0, bs => some ([], bs)
  | n + 1, bs =>
    match f bs with
    | none => none
    | some (a, r) => (items f n r).map fun x => (a :: x.1, x.2)

/-- A reading that leaves no byte over. -/
def whole {α : Type} (x : Option (α × List Byte)) : Option α :=
  match x with
  | some (a, []) => some a
  | _ => none

/-! ## Songs -/

/-- A segment's 20 bytes (R188). -/
def Segment.bytes (x : Segment) : List Byte :=
  be 2 x.firstBar ++ be 2 x.barCount ++ be 1 x.meter ++ be 1 x.pattern ++
  be 1 (if x.fixed.isSome then 1 else 0) ++ be 4 (x.fixed.getD 0) ++ be 4 x.pmin ++ be 4 x.pmax ++
  beBool x.vamp

/-- An opening entry's 4 bytes (R188). -/
def Opening.bytes (o : Opening) : List Byte := be 1 o.station ++ be 1 o.layer ++ be 2 o.patch

/-- A song record (R188). -/
def Song.bytes (g : Song) : List Byte :=
  be 1 g.number ++ beList Segment.bytes g.segments ++ be 1 g.countIn ++ be 1 (g.segue.getD 0) ++
  beList Opening.bytes g.opening

/-- Read a segment. The flag says that the tempo mode byte and the vamp byte are values of their enumerations; where
one is not, WRITE_SONG answers RANGE in R23's place, by the model's choice (log entry 53). -/
def readSegment (bs : List Byte) : Option ((Bool × Segment) × List Byte) := do
  let (firstBar, bs) ← field 2 bs
  let (barCount, bs) ← field 2 bs
  let (meter, bs) ← field 1 bs
  let (pattern, bs) ← field 1 bs
  let (mode, bs) ← field 1 bs
  let (period, bs) ← field 4 bs
  let (pmin, bs) ← field 4 bs
  let (pmax, bs) ← field 4 bs
  let (vamp, bs) ← field 1 bs
  some ((decide (mode ≤ 1) && decide (vamp ≤ 1),
    { firstBar := firstBar, barCount := barCount, meter := meter, pattern := pattern
      fixed := if mode = 1 then some period else none
      pmin := pmin, pmax := pmax, vamp := vamp == 1 }), bs)

/-- Read an opening entry. -/
def readOpening (bs : List Byte) : Option (Opening × List Byte) := do
  let (station, bs) ← field 1 bs
  let (layer, bs) ← field 1 bs
  let (patch, bs) ← field 2 bs
  some (⟨station, layer, patch⟩, bs)

/-- Read a song record. -/
def readSong (bs : List Byte) : Option ((Bool × Song) × List Byte) := do
  let (number, bs) ← field 1 bs
  let (n, bs) ← field 1 bs
  let (segments, bs) ← items readSegment n bs
  let (countIn, bs) ← field 1 bs
  let (segue, bs) ← field 1 bs
  let (m, bs) ← field 1 bs
  let (opening, bs) ← items readOpening m bs
  some ((segments.all Prod.fst,
    { number := number, segments := segments.map Prod.snd, countIn := countIn
      segue := if segue = 0 then none else some segue
      opening := opening }), bs)

/-! ## Cues -/

/-- An action's kind and content (R188). -/
def Action.bytes : Action → List Byte
  | .patch st layer p land => be 1 1 ++ be 1 st ++ be 1 layer ++ be 2 p ++ be 1 land.code
  | .lane lanes mute pattern => be 1 2 ++ be 2 lanes.toNat ++ beBool mute ++ beOpt (be 1) pattern
  | .feed feeds source overlay =>
    be 1 3 ++ be 2 feeds.toNat ++ beOpt (fun x => be 1 x.code) source ++
    beOpt (fun m : Mask => be 2 m.toNat) overlay
  | .vampExit => be 1 4
  | .tempo fixed => be 1 5 ++ be 1 (if fixed.isSome then 1 else 0) ++ be 4 (fixed.getD 0)

/-- The kind byte and the bytes of a cue's kind fields (R188). -/
def CueKind.bytes : CueKind → List Byte
  | .go nominal => be 1 0 ++ be 3 0 ++ be 1 0 ++ be 1 0 ++ be 2 nominal
  | .position bar beat lead every =>
    be 1 1 ++ be 2 bar ++ be 1 beat ++ be 1 lead ++ beBool every ++ be 2 0

/-- A cue entry without its marks (R188). -/
def Cue.bytes (c : Cue) : List Byte :=
  be 2 c.id ++ be 1 c.song ++ c.kind.bytes ++ beList Action.bytes c.actions

/-- The land of its byte (R187). -/
def landOfCode : Nat → Option LandWritten
  | 0 => some .atCue | 1 => some .now | 2 => some .nextBeat | 3 => some .nextBar
  | _ => none

/-- The feed source of its byte (R187). -/
def sourceOfCode : Nat → Option FeedSource
  | 0 => some .podium | 1 => some .camA | 2 => some .camB | 3 => some .black
  | _ => none

/-- Read an action (R188). -/
def readAction (bs : List Byte) : Option ((Bool × Action) × List Byte) := do
  let (kind, bs) ← field 1 bs
  match kind with
  | 1 =>
    let (st, bs) ← field 1 bs
    let (layer, bs) ← field 1 bs
    let (p, bs) ← field 2 bs
    let (land, bs) ← field 1 bs
    some (((landOfCode land).isSome, .patch st layer p ((landOfCode land).getD .now)), bs)
  | 2 =>
    let (lanes, bs) ← field 2 bs
    let (mute, bs) ← field 1 bs
    let (pattern, bs) ← optField 1 bs
    some ((decide (mute ≤ 1), .lane (BitVec.ofNat 16 lanes) (mute == 1) pattern), bs)
  | 3 =>
    let (feeds, bs) ← field 2 bs
    let (source, bs) ← optField 1 bs
    let (overlay, bs) ← optField 2 bs
    some ((source.all fun x => (sourceOfCode x).isSome,
      .feed (BitVec.ofNat 16 feeds) (source.bind sourceOfCode) (overlay.map (BitVec.ofNat 16))), bs)
  | 4 => some ((true, .vampExit), bs)
  | 5 =>
    let (mode, bs) ← field 1 bs
    let (period, bs) ← field 4 bs
    some ((decide (mode ≤ 1), .tempo (if mode = 1 then some period else none)), bs)
  | _ => none

/-- Whether R187 gives an action kind of this byte. -/
def isActionKind (k : Byte) : Bool := decide (1 ≤ k.toNat) && decide (k.toNat ≤ 5)

/-- Read a list of `n` actions (R188). Bytes from an action kind that R187 does not give on can be read by no
layout: they are taken whole, and the list is marked as not right (R62 step 4; log entry 26). -/
def readActions : Nat → List Byte → Option ((Bool × List Action) × List Byte)
  | 0, bs => some ((true, []), bs)
  | n + 1, bs =>
    if bs.head?.any fun k => !(isActionKind k) then some ((false, []), [])
    else
      match readAction bs with
      | none => none
      | some ((ok, a), r) => (readActions n r).map fun x => ((ok && x.1.1, a :: x.1.2), x.2)

/-- Read a cue entry (R188). -/
def readCueEntry (bs : List Byte) : Option ((Bool × Cue) × List Byte) := do
  let (id, bs) ← field 2 bs
  let (song, bs) ← field 1 bs
  let (kind, bs) ← field 1 bs
  let (bar, bs) ← field 2 bs
  let (beat, bs) ← field 1 bs
  let (lead, bs) ← field 1 bs
  let (policy, bs) ← field 1 bs
  let (nominal, bs) ← field 2 bs
  let (n, bs) ← field 1 bs
  let ((ok, actions), bs) ← readActions n bs
  some ((decide (kind = 0 ∨ (kind = 1 ∧ policy ≤ 1)) && ok,
    { id := id, song := song
      kind := if kind = 0 then .go nominal else .position bar beat lead (policy == 1)
      actions := actions }), bs)

/-! ## The other records -/

/-- A pattern slot's 13 bytes (R188). -/
def Pattern.bytes (p : Pattern) : List Byte :=
  (List.range 12).flatMap (fun i => be 1 (p.accents.getD i 0)) ++ be 1 p.sub

/-- A lane base record's 9 bytes (R188). -/
def LaneBase.bytes (b : LaneBase) : List Byte :=
  be 1 b.subdivision ++ be 4 b.base ++ be 1 (b.follow.getD 0) ++ be 1 b.weak ++ be 1 b.normal ++ be 1 b.accent

/-- A feed base record's 5 bytes (R188). -/
def FeedBase.bytes (b : FeedBase) : List Byte := be 4 b.threshold ++ be 1 b.depth

/-- The roster as a 16-bit mask, bit n for station n (R188). -/
def rosterMask (r : List Nat) : Nat := ((upTo 14).map fun n => if r.contains n then 2 ^ n else 0).sum

/-- Read a pattern slot's content. -/
def readPatternBytes (bs : List Byte) : Option (Pattern × List Byte) := do
  let (accents, bs) ← items (field 1) 12 bs
  let (sub, bs) ← field 1 bs
  some (⟨accents, sub⟩, bs)

/-- Read a lane base record. -/
def readLaneBaseBytes (bs : List Byte) : Option (LaneBase × List Byte) := do
  let (subdivision, bs) ← field 1 bs
  let (base, bs) ← field 4 bs
  let (follow, bs) ← field 1 bs
  let (weak, bs) ← field 1 bs
  let (normal, bs) ← field 1 bs
  let (accent, bs) ← field 1 bs
  some (⟨subdivision, base, if follow = 0 then none else some follow, weak, normal, accent⟩, bs)

/-- Read a feed base record. -/
def readFeedBaseBytes (bs : List Byte) : Option (FeedBase × List Byte) := do
  let (threshold, bs) ← field 4 bs
  let (depth, bs) ← field 1 bs
  some (⟨threshold, depth⟩, bs)

/-! ## The store image (R188) -/

/-- The parts of the store image in image order. -/
def Store.parts (st : Store) : List StorePart :=
  (upTo 64).map .song ++ (List.range 16).map .pattern ++ [.cueCount] ++
  st.cues.map (fun e => .cue e.cue.id) ++ [.roster] ++ (upTo 16).map .lane ++ (upTo 6).map .feed

/-- The bytes the records of a part spell (R188). -/
def Store.recordBytes (st : Store) : StorePart → List Byte
  | .song n =>
    match st.song n with
    | none => be 1 0
    | some g => be 1 1 ++ g.bytes
  | .pattern n => (st.patterns.getD n default).bytes
  | .cueCount => be 2 st.cues.length
  | .cue id => ((st.cue id).map fun e => e.cue.bytes).getD []
  | .roster => be 2 (rosterMask st.roster)
  | .lane n => (nth1 st.laneBases n).bytes
  | .feed n => (nth1 st.feedBases n).bytes

/-- The bytes the store holds for a part: those a storage fault left, or those of its records (R191). -/
def Store.partBytes (st : Store) (p : StorePart) : List Byte :=
  (st.altered.lookup p).getD (st.recordBytes p)

/-- The store image as it stands (R188). -/
def Store.image (st : Store) : List Byte := st.parts.flatMap st.partBytes

/-- The CRC-16 of the image as it stands (R190). -/
def Store.crc (st : Store) : Nat := crc16 st.image

/-- A part's bytes as the pass in progress read them (R191). -/
def Store.passBytes (st : Store) (p : StorePart) : List Byte :=
  (st.passMissed.reverse.filter fun x => x.1 == p).foldl (fun bs x => bs.set x.2.1 x.2.2) (st.partBytes p)

/-- The CRC-16 of the background pass that ends now (R191). -/
def Store.passCrc (st : Store) : Nat := crc16 (st.parts.flatMap st.passBytes)

end Sys2Proof.Machine
end

