-- ==== Sys2Proof/Machine/Operands.lean ====
section
/-! DEFINITION. The operand forms: the payload each request allows, with the lengths of R186, read into the
request's fields (R184, R187). A reader answers none exactly where the payload is not of a length, or has
not the presence bytes, that its request allows; the values are judged by the request's owner. -/

namespace Sys2Proof.Machine

/-- The request code of R186 for each request of the table, by the request's constructor. -/
def codeOf : Instr → Option Nat
  | .go .. => some 1 | .standby .. => some 2 | .release .. => some 3 | .arm .. => some 4 | .stop .. => some 5
  | .count .. => some 6 | .restartAt .. => some 7 | .vampExit .. => some 8 | .tempo .. => some 9
  | .handover .. => some 10 | .ackPanic .. => some 11 | .ackPanicAll .. => some 12
  | .writeSong .. => some 16 | .deleteSong .. => some 17 | .writePattern .. => some 18
  | .writeCue .. => some 19 | .deleteCue .. => some 20 | .writeRoster .. => some 21
  | .writeLaneBase .. => some 22 | .writeFeedBase .. => some 23 | .seal .. => some 24 | .lock .. => some 25
  | .unlock .. => some 26 | .resetShow .. => some 27 | .reboot .. => some 28
  | .setEstimator .. => some 32 | .setDispatch .. => some 33 | .setProbe .. => some 34
  | .setFeedMeasure .. => some 35 | .setLane .. => some 36 | .setFeed .. => some 37
  | .clearStatus .. => some 40 | .setMasks .. => some 41 | .forceE .. => some 42 | .forceW .. => some 43
  | .readShow .. => some 48 | .readStop .. => some 49 | .readSong .. => some 50 | .readPattern .. => some 51
  | .readStoreSpace .. => some 52 | .readCue .. => some 53 | .readCues .. => some 54
  | .readRoster .. => some 55 | .readLaneBase .. => some 56 | .readFeedBase .. => some 57
  | .readTempo .. => some 58 | .readEstimator .. => some 59 | .readCaptureLog .. => some 60
  | .readDispatch .. => some 61 | .readStation .. => some 62 | .readBus .. => some 63
  | .readLane .. => some 64 | .readLanes .. => some 65 | .readVideo .. => some 66 | .readStatus .. => some 67
  | .readSeal .. => some 68
  | _ => none

/-- The link of a request and the payload of its last frame. -/
def payloadOf : Instr → Option (Link × List Byte)
  | .go l p | .standby l p | .release l p | .arm l p | .stop l p | .count l p | .restartAt l p
  | .vampExit l p | .tempo l p | .handover l p | .ackPanic l p | .ackPanicAll l p | .writeSong l p
  | .deleteSong l p | .writePattern l p | .writeCue l p | .deleteCue l p | .writeRoster l p
  | .writeLaneBase l p | .writeFeedBase l p | .seal l p | .lock l p | .unlock l p | .resetShow l p
  | .reboot l p | .setEstimator l p | .setDispatch l p | .setProbe l p | .setFeedMeasure l p
  | .setLane l p | .setFeed l p | .clearStatus l p | .setMasks l p | .forceE l p | .forceW l p
  | .readShow l p | .readStop l p | .readSong l p | .readPattern l p | .readStoreSpace l p | .readCue l p
  | .readCues l p | .readRoster l p | .readLaneBase l p | .readFeedBase l p | .readTempo l p
  | .readEstimator l p | .readCaptureLog l p | .readDispatch l p | .readStation l p | .readBus l p
  | .readLane l p | .readLanes l p | .readVideo l p | .readStatus l p | .readSeal l p => some (l, p)
  | _ => none

/-- The request codes of R186. -/
def requestCodes : List Nat :=
  (List.range 12).map (· + 1) ++ (List.range 13).map (· + 16) ++ (List.range 6).map (· + 32) ++
  (List.range 4).map (· + 40) ++ (List.range 21).map (· + 48)

/-- A request that carries nothing. -/
def noOperand (p : List Byte) : Option Unit := if p.isEmpty then some () else none

/-- One byte. -/
def oneByte (p : List Byte) : Option Nat := whole (field 1 p)

/-- One field of two bytes: a cue id or a CRC-16. -/
def twoBytes (p : List Byte) : Option Nat := whole (field 2 p)

/-- Two fields of one byte each: HANDOVER, ACK_PANIC. -/
def bytePair (p : List Byte) : Option (Nat × Nat) := whole do
  let (a, p) ← field 1 p
  let (b, p) ← field 1 p
  some ((a, b), p)

/-- An optional cue id: GO, STANDBY. -/
def optCueId (p : List Byte) : Option (Option Nat) := whole (optField 2 p)

/-- An optional start time: COUNT. -/
def optTime (p : List Byte) : Option (Option Nat) := whole (optField 6 p)

/-- ARM: song; bar, optional. -/
def armOperands (p : List Byte) : Option (Nat × Option Nat) := whole do
  let (song, p) ← field 1 p
  let (bar, p) ← optField 2 p
  some ((song, bar), p)

/-- RESTART_AT: song; bar; tempo in BPM, optional. -/
def restartOperands (p : List Byte) : Option (Nat × Nat × Option Nat) := whole do
  let (song, p) ← field 1 p
  let (bar, p) ← field 2 p
  let (tempo, p) ← optField 2 p
  some ((song, bar, tempo), p)

/-- TEMPO: mode; period, optional. -/
def tempoOperands (p : List Byte) : Option (Nat × Option Nat) := whole do
  let (mode, p) ← field 1 p
  let (period, p) ← optField 4 p
  some ((mode, period), p)

/-- WRITE_SONG: a song record, with whether its enumerated bytes are values of their fields. -/
def songOperand (p : List Byte) : Option (Bool × Song) := whole (readSong p)

/-- WRITE_PATTERN: slot; twelve accent levels; subdivision level. -/
def patternOperands (p : List Byte) : Option (Nat × Pattern) := whole do
  let (slot, p) ← field 1 p
  let (x, p) ← readPatternBytes p
  some ((slot, x), p)

/-- WRITE_CUE: a cue entry, with whether its enumerated bytes are values of their fields. -/
def cueOperand (p : List Byte) : Option (Bool × Cue) := whole (readCueEntry p)

/-- WRITE_ROSTER: a count n, then n addresses. -/
def rosterOperand (p : List Byte) : Option (List Nat) := whole do
  let (n, p) ← field 1 p
  items (field 1) n p

/-- WRITE_LANE_BASE: lane; the lane base record. -/
def laneBaseOperands (p : List Byte) : Option (Nat × LaneBase) := whole do
  let (n, p) ← field 1 p
  let (b, p) ← readLaneBaseBytes p
  some ((n, b), p)

/-- WRITE_FEED_BASE: feed; the feed base record. -/
def feedBaseOperands (p : List Byte) : Option (Nat × FeedBase) := whole do
  let (n, p) ← field 1 p
  let (b, p) ← readFeedBaseBytes p
  some ((n, b), p)

/-- SET_ESTIMATOR: d, w, Rs, k, Nc; debounce. -/
def estimatorOperand (p : List Byte) : Option Estimator := whole do
  let (d, p) ← field 1 p
  let (w, p) ← field 1 p
  let (rs, p) ← field 1 p
  let (k, p) ← field 1 p
  let (nc, p) ← field 1 p
  let (debounce, p) ← field 4 p
  some (⟨d, w, rs, k, nc, debounce⟩, p)

/-- SET_FEED_MEASURE: feed set; on or off. -/
def measureOperands (p : List Byte) : Option (Mask × Nat) := whole do
  let (m, p) ← field 2 p
  let (on, p) ← field 1 p
  some ((BitVec.ofNat 16 m, on), p)

/-- SET_LANE: lane set; mute setting, optional; trim, optional and signed. -/
def laneOperands (p : List Byte) : Option (Mask × Option Nat × Option Int) := whole do
  let (m, p) ← field 2 p
  let (mute, p) ← optField 1 p
  let (trim, p) ← optField 4 p
  some ((BitVec.ofNat 16 m, mute, trim.map fun t => signed32 t), p)

/-- SET_FEED: feed set; source, optional; overlay mask, optional. -/
def feedOperands (p : List Byte) : Option (Mask × Option Nat × Option Mask) := whole do
  let (m, p) ← field 2 p
  let (source, p) ← optField 1 p
  let (overlay, p) ← optField 2 p
  some ((BitVec.ofNat 16 m, source, overlay.map (BitVec.ofNat 16)), p)

/-- SET_MASKS: E mask, W mask and notice enable mask, each optional. -/
def maskOperands (p : List Byte) : Option (Option Mask × Option Mask × Option Mask) := whole do
  let (e, p) ← optField 2 p
  let (w, p) ← optField 2 p
  let (n, p) ← optField 2 p
  some ((e.map (BitVec.ofNat 16), w.map (BitVec.ofNat 16), n.map (BitVec.ofNat 16)), p)

end Sys2Proof.Machine
end

