-- ==== Sys2Proof/Machine/CueOps.lean ====
section
/-! DEFINITION. The Cue Engine's shared operations: running a cue (R68 to R71, R74), the vamp exit (R34),
GO's choice of a cue (R65, R66), positional firing (R72, R73), patch resolution (R75 to R77) and the
hand-overs the CUE takes. -/

namespace Sys2Proof.Machine

/-! ## Standby and marks -/

/-- Set the standby cue, handing the change to the VU (R67). -/
def setStandby (c : Option Nat) (s : State) : State :=
  (s.onCue fun e => { e with standby := c }).onVu fun v => { v with standby := c }

/-- Change the marks of one cue. -/
def State.onMark (id : Nat) (f : CueEntry → CueEntry) (s : State) : State :=
  s.onCues fun e => if e.cue.id = id then f e else e

/-! ## Vamp exit (R34) -/

/-- The SCU takes a VAMP_EXIT, of the Podium Link or of an action (R34). -/
def vampExitStep (s : State) : State × Result :=
  match s.scu.showState with
  | .running =>
    if (s.segment.map Segment.vamp) = some true then
      (setPosition { s.scu.position with exitArmed := true } s, .ok)
    else (s, .ignored)
  | .countIn => (s, .ignored)
  | _ => (s, .refusedState)

/-! ## Running a cue (R68 to R71) -/

/-- What runs a cue: a GO, or the delivered grid beat it fires at. -/
inductive RunBy
  | go
  | beat (g : GridBeat)
  deriving DecidableEq, Repr

/-- Run by a GO. -/
def RunBy.isGo : RunBy → Bool
  | .go => true
  | .beat _ => false

/-- The pass a cue runs in: the position record's, or, of a positional cue, the delivered one (R68, R72; log entry
56). -/
def State.runPass (s : State) : RunBy → Nat
  | .go => s.scu.position.pass
  | .beat g => g.position.pass

/-- The segment of a cue's chart place. -/
def Store.cueSegment (st : Store) (c : Cue) : Option Segment :=
  (st.song c.song).bind fun g => g.segmentAt c.place.1

/-- The beats from a delivered beat to a cue's position, counted within the segment (R74). A negative number, which only
a storage fault leaves, counts as 0, by the model's choice (log entry 93). -/
def Segment.beatsToGo (x : Segment) (bar beat : Nat) (d : Place) : Nat :=
  (x.beatIndex bar beat - ((d.bar - x.firstBar) * x.meter + ((d.beat : Int) - 1))).toNat

/-- The land handed with a PATCH action (R69, R74). The segment and pass of a POSITION land are those of the position
delivered with the firing event, by the model's choice: R83's position record at the firing may have stepped on since
(log entry 71). A due-at-start cue whose segment a storage fault has taken away since the resolution has no beats to go:
its AT_CUE patch is handed with land NOW, by the model's choice (log entry 89). -/
def State.patchLand (s : State) (c : Cue) (b : RunBy) : LandWritten → LandAsked
  | .now => .now
  | .nextBeat => .nextBeat
  | .nextBar => .nextBar
  | .atCue =>
    match b, c.kind, s.store.cueSegment c with
    | .beat g, .position bar beat _ _, some x =>
      match g.position.place with
      | some d =>
        .position ⟨c.song, bar, beat, d.segment, g.position.pass⟩
          (g.time + x.beatsToGo bar beat d * g.period)
      | none => .now
    | _, _, _ => .now

/-- One action is executed into its block (R69 to R71). -/
def runAction (c : Cue) (b : RunBy) (s : State) (a : Action) : State :=
  match a with
  | .patch st layer patch land => createEntry ⟨st, layer, patch, .cue, s.patchLand c b land⟩ s
  | .lane lanes mute pattern => laneAction lanes mute pattern s
  | .feed feeds source overlay => feedAction feeds source overlay s
  | .vampExit => (vampExitStep s).1
  | .tempo fixed => tempoAction fixed s

/-- A cue runs: its actions, its marks, the standby cue, the counters and the CUE_FIRED notice, which
carries the GO pointer as it stands (R68). The position record that the notice carries is the one standing when the cue
begins to run, before its own actions (log entry 56). -/
def runCue (b : RunBy) (s : State) (e : CueEntry) : State :=
  let c := e.cue
  let pos := s.scu.position
  let pass := s.runPass b
  let s := c.actions.foldl (runAction c b) s
  let s := s.onMark c.id fun x => { x with fired := some pass, dueAtStart := false }
  let s := if s.cue.standby = some c.id then setStandby none s else s
  let s := s.onCue fun q =>
    { q with
      goRun := if b.isGo then q.goRun + 1 else q.goRun
      fired := if b.isGo then q.fired else q.fired + 1
      actions := q.actions + BitVec.ofNat 32 c.actions.length }
  raiseNotice (.cueFired c.id b.isGo pass pos s.cue.goPointer) s

/-! ## GO (R65, R66) -/

/-- The cue a GO runs, if it resolves to one (R65). -/
def State.goTarget (s : State) (id : Option Nat) : Option CueEntry :=
  match id, s.cue.goPointer with
  | none, none => none
  | none, some p => s.store.cue p
  | some _, none => none
  | some i, some p =>
    if i = p then s.store.cue p
    else if i < p then none
    else (s.store.cue i).bind fun e =>
      if e.cue.isGo && s.scu.position.place.map Place.song == some e.cue.song then some e else none

/-- The cue ids a GO of cue `c` passes over: the GO cues of its song from the pointer up to it (R66). -/
def State.skippedBy (s : State) (c : Cue) : List Nat :=
  match s.cue.goPointer with
  | none => []
  | some p =>
    (s.store.cues.filter fun e =>
      e.cue.isGo && e.cue.song == c.song && decide (p ≤ e.cue.id) && decide (e.cue.id < c.id)).map
      fun e => e.cue.id

/-- Count the skipped cues and raise the CUE_SKIPPED notice (R66). -/
def tellSkipped (run : Nat) (ids : List Nat) (s : State) : State :=
  match ids.head?, ids.getLast? with
  | some lo, some hi =>
    let s := s.onCue fun q => { q with skipped := q.skipped + BitVec.ofNat 32 ids.length }
    raiseNotice (.cueSkipped run ids.length lo hi s.cue.goPointer) s
  | _, _ => s

/-- A GO that resolves to a cue: the pointer moves beyond it, the cue runs, and the skip is told (R65,
R66, R68). -/
def goRun (e : CueEntry) (s : State) : State :=
  let skipped := s.skippedBy e.cue
  let next := s.store.firstGo e.cue.song fun c => decide (e.cue.id < c.id)
  let s := s.onCue fun q => { q with goPointer := next }
  tellSkipped e.cue.id skipped (runCue .go s e)

/-! ## Positional firing (R72, R73) -/

/-- A cue's firing point is a delivered bar and beat (R72). A cue whose bar lies in no segment, which only a storage
fault leaves, has none, by the model's choice (log entry 89). -/
def Store.firesAt (st : Store) (c : Cue) (d : Place) : Bool :=
  match c.kind, st.cueSegment c with
  | .position bar beat lead _, some x => x.firingPoint bar beat lead == (d.bar, (d.beat : Int))
  | _, _ => false

/-- The fired mark lets a cue fire in a pass: no mark, or EVERY_PASS and a mark of an earlier pass
(R72). -/
def CueEntry.mayFire (e : CueEntry) (pass : Nat) : Bool :=
  match e.fired, e.cue.kind with
  | none, _ => true
  | some p, .position _ _ _ true => decide (p < pass)
  | _, _ => false

/-- A cue fires at a delivered grid beat (R72). -/
def State.fires (s : State) (g : GridBeat) (e : CueEntry) : Bool :=
  match g.position.place with
  | none => false
  | some d =>
    !e.cue.isGo && e.cue.song == d.song &&
      ((s.store.firesAt e.cue d && e.mayFire g.position.pass) || (e.dueAtStart && s.cue.startDue))

/-- Positional firing at a grid beat delivered with RUNNING: the cues that fire run in cue id order (R72,
R73). -/
def positionalStep (g : GridBeat) (s : State) : State :=
  let firing := s.store.cues.filter (s.fires g)
  firing.foldl (runCue (.beat g)) (s.onCue fun q => { q with startDue := false })

/-! ## Hand-overs -/

/-- The CUE takes a hand-over: positional firing in RUNNING (R72), the end of every due-at-start mark at
HOLD entry (R77, R158), the show reset (R194). -/
def takeCue (s : State) (h : HandOver) : State :=
  match h with
  | .beat g => if g.showState = .running then positionalStep g s else s
  | .hold _ _ => s.onCues fun e => { e with dueAtStart := false }
  | .showReset =>
    let s := s.onCues fun e => { e with fired := none, dueAtStart := false }
    resetAnswered (setStandby none (s.onCue fun q =>
      { q with goPointer := none, goRun := 0, fired := 0, skipped := 0, actions := 0 }))

/-- The CUE takes every waiting hand-over, in order (R158). -/
def drainCue (s : State) : State :=
  s.cue.hands.foldl takeCue (s.onCue fun q => { q with hands := [] })

/-! ## Patch resolution (R75 to R77) -/

/-- Chart order of two bar and beat pairs: the first is at or before the second. -/
def placeLe (a b : Nat × Nat) : Bool := decide (a.1 < b.1) || (a.1 == b.1 && decide (a.2 ≤ b.2))

/-- The patch a cue sets for a station and layer: that of its last PATCH action for the pair (R75). -/
def Cue.patchFor (c : Cue) (st layer : Nat) : Option Nat :=
  c.actions.foldl (fun acc a =>
    match a with
    | .patch st' layer' p _ => if st' = st ∧ layer' = layer then some p else acc
    | _ => acc) none

/-- The cue latest in chart order of cues listed in cue id order (R60, R75). -/
def latestCue : List Cue → Option Cue
  | [] => none
  | c :: cs =>
    match latestCue cs with
    | none => some c
    | some d => if placeLe c.place d.place then some d else some c

/-- The target patch of a pair at a bar's first beat (R75). -/
def Store.targetPatch (st : Store) (song bar station layer : Nat) : Option Nat :=
  let cues := (st.cues.map CueEntry.cue).filter fun c =>
    c.song == song && placeLe c.place (bar, 1) && (c.patchFor station layer).isSome
  match latestCue cues with
  | some c => c.patchFor station layer
  | none =>
    ((st.song song).bind fun g =>
      g.opening.find? fun o => o.station == station && o.layer == layer).map Opening.patch

/-- The station already holds the target patch, and no open entry carries another (R76). -/
def State.holdsPatch (s : State) (station layer target : Nat) : Bool :=
  ((s.station station).patches.getD layer none == some target) &&
    !((s.queue station).any fun e => e.isOpen && e.layer == layer && e.patch != target)

/-- Resolution of one pair: a change of origin RESOLUTION with land NOW where one is needed, counted (R76). -/
def resolvePair (song bar : Nat) (s : State) (pair : Nat × Nat) : State :=
  match s.store.targetPatch song bar pair.1 pair.2 with
  | none => s
  | some p =>
    if s.holdsPatch pair.1 pair.2 p then s
    else
      createEntry ⟨pair.1, pair.2, p, .resolution, .now⟩
        (s.onCue fun q => { q with changesHanded := q.changesHanded + 1 })

/-- The station and layer pairs, ascending by station and then by layer (R76). A pair of a station outside 1-14 or a
layer above 7, which only a storage fault leaves in the store, is none of them: a resolution passes over it, by the
model's choice (log entry 93). -/
def allPairs : List (Nat × Nat) := (upTo 14).flatMap fun st => (List.range 8).map fun l => (st, l)

/-- The marks a resolution for a bar gives a cue of the target song (R77). A cue at the target itself is marked fired
with pass 1, as R77 has it, where R60 says that its mark is cleared: by the model's choice R77 holds (log entry 81).
-/
def Store.resolvedMarks (st : Store) (bar : Nat) (e : CueEntry) : CueEntry :=
  if placeLe e.cue.place (bar, 1) then { e with fired := some 1, dueAtStart := false }
  else
    match e.cue.kind, st.cueSegment e.cue with
    | .position b t lead _, some x =>
      { e with fired := none, dueAtStart := decide ((x.firingPoint b t lead).1 < bar) }
    | _, _ => { e with fired := none }

/-- The CUE hands the changes that a song and bar need, pair by pair, counting them (R75, R76). -/
def handChanges (song bar : Nat) (s : State) : State :=
  allPairs.foldl (resolvePair song bar)
    ((drainPdu (drainCue s)).onCue fun q => { q with changesHanded := 0 })

/-- Patch resolution for a song and bar at beat 1, taken whole; its end returns the count of the changes handed to
the SCU (R75 to R77). -/
def resolution (song bar : Nat) (s : State) : State :=
  let s := handChanges song bar s
  let s := s.onStore fun st =>
    { st with cues := st.cues.map fun e => if e.cue.song = song then st.resolvedMarks bar e else e }
  let s := s.onCue fun q =>
    { q with
      startDue := true
      goPointer := s.store.firstGo song fun c => decide (bar < c.place.1) }
  s.onScu fun c => { c with changesHanded := s.cue.changesHanded }

end Sys2Proof.Machine
end

