-- ==== Sys2Proof/Machine/ShowOps.lean ====
section
/-! DEFINITION. The Show Control Unit's shared operations: the stepping of the position at a grid beat (R12,
R14, R15, R29 to R33), ARM (R5), COUNT (R9 to R13), the stop set and HOLD (R156, R157, R160 to R164), and the
show reset (R170, R194). -/

namespace Sys2Proof.Machine

/-! ## Chart advance (R29 to R31) and count-in stepping (R12) -/

/-- What a stepping does to the position: a move, with its entry and wrap indications, or the song's end. -/
inductive Advance
  | moved (p : Position) (entry wrap : Bool)
  | songEnd
  deriving DecidableEq, Repr

/-- The segment boundary: the wrap of a vamp whose exit is not armed, the next segment, or song end (R30,
R31). The next segment is entered at the bar that step 2 gives; where a storage fault has made that segment's first bar
another one, R30 names both, and step 2's bar stands by the model's choice (log entry 89). -/
def boundary (g : Song) (x : Segment) (p : Position) (d : Place) : Advance :=
  if x.vamp && !p.exitArmed then
    .moved { p with place := some { d with bar := x.firstBar, beat := 1 }, pass := min 255 (p.pass + 1) }
      false true
  else
    match g.segments[d.segment + 1]? with
    | some _ =>
      .moved { p with
        place := some { d with bar := d.bar + 1, beat := 1, segment := d.segment + 1 }
        pass := 1, exitArmed := false } true false
    | none => .songEnd

/-- The chart advance of one grid beat (R29). -/
def chartAdvance (g : Song) (x : Segment) (p : Position) (d : Place) : Advance :=
  if d.beat + 1 ≤ x.meter then .moved { p with place := some { d with beat := d.beat + 1 } } false false
  else if d.bar + 1 ≤ x.lastBar then
    .moved { p with place := some { d with bar := d.bar + 1, beat := 1 } } false false
  else boundary g x p d

/-- The count-in stepping of one grid beat, before its end is judged (R12 steps 1 and 2). -/
def countInAdvance (m : Nat) (p : Position) (d : Place) : Position :=
  if d.beat + 1 ≤ m then { p with place := some { d with beat := d.beat + 1 } }
  else { p with place := some { d with bar := d.bar + 1, beat := 1 }, countBars := (-(d.bar + 1)).toNat }

/-! ## What a grid beat does to the show -/

/-- A segment entry: its mode and bounds are handed to the TMU (R32). -/
def handSegment (s : State) : State :=
  match s.segment with
  | none => s
  | some x => enterSegment x s

/-- The count-in is over: RUNNING at the armed position, and the entry of its segment (R12 step 3). -/
def endCountIn (s : State) : State :=
  match s.scu.armed with
  | none => s
  | some a =>
    handSegment (raiseState none (setPosition (s.store.positionAt a.1 a.2) (setShow .running s)))

/-- The segue to a song at its downbeat (R14). -/
def segue (g : Song) (s : State) : State :=
  let s := handSegment (setPosition (s.store.positionAt g.number 1) s)
  let s := (drainCue s).onCues fun e => if e.cue.song = g.number then { e with fired := none } else e
  let s := s.onCue fun q => { q with goPointer := s.store.firstGo g.number fun _ => true }
  let s := endOverrides (drainPdu s)
  let s := g.opening.foldl (fun s o => createEntry ⟨o.station, o.layer, o.patch, .cue, .now⟩ s) s
  raiseState none s

/-- Song end to DARK: the position is kept and the TMU enters IDLE (R15). -/
def endToDark (s : State) : State := enterIdle (drainTmu (raiseState none (setShow .dark s)))

/-- Deliver a grid beat event with the state, position and indications as they stand; a handover pending
NEXT_BAR takes effect at a downbeat (R33, R39). -/
def deliver (index : Count32) (time period : Nat) (downbeat entry wrap : Bool) (s : State) : State :=
  let s := handBeat ⟨index, time, period, s.scu.showState, s.scu.position, downbeat, entry, wrap⟩ s
  if downbeat then pendingHandover s else s

/-- The downbeat indication: the beat is 1 after the SCU has taken the event (R33). -/
def State.isDownbeat (s : State) : Bool := s.scu.position.place.map Place.beat == some 1

/-- The song that a finished song goes on to, if its segue song is defined (R14, R15). -/
def Store.segueOf (st : Store) (g : Song) : Option Song := g.segue.bind st.song

/-- The SCU takes a grid beat in RUNNING (R14, R15, R29 to R33). -/
def stepRunning (index : Count32) (time period : Nat) (s : State) : State :=
  match s.scu.position.place, s.segment with
  | some d, some x =>
    match s.store.song d.song with
    | none => deliver index time period s.isDownbeat false false s
    | some g =>
      match chartAdvance g x s.scu.position d with
      | .moved p entry wrap =>
        let s := setPosition p s
        let s := if entry then endOverrides (handSegment s) else s
        deliver index time period s.isDownbeat entry wrap s
      | .songEnd =>
        match s.store.segueOf g with
        | some n => deliver index time period true true false (segue n s)
        | none => deliver index time period false false false (endToDark s)
  | _, _ => deliver index time period s.isDownbeat false false s

/-- The SCU takes a grid beat in COUNT_IN (R12, R33). -/
def stepCountIn (index : Count32) (time period : Nat) (s : State) : State :=
  match s.scu.position.place, s.segment with
  | some d, some x =>
    let p := countInAdvance x.meter s.scu.position d
    if p.place.map Place.bar = some 0 then
      let s := endCountIn s
      deliver index time period s.isDownbeat true false s
    else
      let s := setPosition p s
      deliver index time period s.isDownbeat false false s
  | _, _ => deliver index time period s.isDownbeat false false s

/-- The SCU takes a grid beat event: the start beat is not stepped (R11), count-in and chart are stepped by
their rules, and a beat taken in any other state is delivered as it is (R158). -/
def takeBeat (start : Bool) (index : Count32) (time period : Nat) (s : State) : State :=
  match s.scu.showState with
  | .countIn =>
    if start then deliver index time period s.isDownbeat false false s else stepCountIn index time period s
  | .running =>
    if start then deliver index time period s.isDownbeat false false s else stepRunning index time period s
  | _ => deliver index time period s.isDownbeat false false s

/-- The next grid beat may be emitted: its time has been reached, and it is not a start beat that a stop or
a show reset taken by the SCU has already ended (R11, R47). -/
def beatDue (s : State) : Bool :=
  s.tmu.tempo != .idle && reachedOpt s.tmu.nextBeat s && !(s.tmu.emitted.isEmpty && !s.tmu.hands.isEmpty)

/-- The TMU emits a grid beat and the SCU takes it (R47). -/
def emitAndTake (s : State) : State :=
  if beatDue s then
    let g := s.tmu.nextBeat.getD s.now
    let start := s.tmu.emitted.isEmpty
    let s := applyLinked s
    let index := s.tmu.beatIndex
    let period := s.tmu.period
    takeBeat start index g period (emitBeat g s)
  else s

/-! ## The end of a RESET_SHOW that is still being taken (R194) -/

/-- A RESET_SHOW whose response is owed comes to its end: the blocks take the show reset, and the response is formed
(R194; log entry 23). -/
def finishReset (s : State) : State :=
  if s.lku.resetOwed = true then resetAnswered (drainVu (drainPdu (drainCue (drainTmu s)))) else s

/-! ## ARM (R5) -/

/-- Resolution for a bar, and the change to ARMED when nothing is outstanding (R5 steps 4 and 5, R163
steps 6 and 7). -/
def resolveAndJudge (song bar : Nat) (s : State) : State := armedIfResolved (resolution song bar s)

/-- ARM of a song and bar that are in the store (R5). A RESET_SHOW still being taken comes to its end first, since its
response shows DARK or HOLD (R194). -/
def armAt (song bar : Nat) (s : State) : State :=
  let s := endOverrides (drainPdu (drainCue (finishReset s)))
  let s := s.onScu fun c => { c with armed := some (song, bar), restart := none }
  let s := raiseState none (setShow .preparing (setPosition (s.store.positionAt song bar) s))
  resolveAndJudge song bar s

/-- ARM's checks and effect (R5). -/
def armStep (song : Nat) (bar : Option Nat) (s : State) : State × Result :=
  if s.scu.showState = .dark ∨ s.scu.showState = .armed then
    match s.store.song song with
    | none => (s, .notFound)
    | some g =>
      let b := bar.getD 1
      if g.hasBar b then (armAt song b s, .ok) else (s, .notFound)
  else (s, .refusedState)

/-! ## COUNT (R9 to R13) -/

/-- The start time COUNT uses, and whether it is the one given (R9). -/
def startTime (now : Nat) (given : Option Nat) : Nat × Result :=
  match given with
  | none => (now + Config.countLeadMin, .clamped)
  | some t =>
    if now + Config.countLeadMin ≤ t ∧ t ≤ now + Config.countLeadMax then (t, .ok)
    else (now + Config.countLeadMin, .clamped)

/-- The count period before its clamp (R10). -/
def countPeriod (s : State) (x : Segment) : Nat :=
  match s.scu.restart.bind Restart.tempo with
  | some bpm => 60000000 / bpm
  | none => x.fixed.getD s.tmu.period

/-- COUNT of an armed song: COUNT_IN, or RUNNING when it has no count-in bars (R10 to R13). -/
def countFrom (start : Nat) (g : Song) (x : Segment) (s : State) : State :=
  let wanted := countPeriod s x
  let period := clampNat x.pmin x.pmax wanted
  let s := if period = wanted then s else raiseEvent .tempoClamp s
  let s := s.onScu fun c => { c with restart := none }
  if g.countIn = 0 then
    let s := setShow .running s
    raiseState (some start) (match x.fixed with
      | some pf => startGrid start pf x .fixed s
      | none => startGrid start period x .tracking s)
  else
    let s := s.onScu fun c =>
      { c with
        showState := .countIn
        position := { c.position with
          place := c.position.place.map fun d => { d with bar := -(g.countIn : Int), beat := 1 }
          countBars := g.countIn } }
    raiseState (some start) (startGrid start period x .fixed s)

/-- COUNT's checks and effect (R9). -/
def countStep (given : Option Nat) (s : State) : State × Result :=
  if s.scu.showState = .armed then
    match s.scu.armed.bind (fun a => s.store.song a.1), s.segment with
    | some g, some x =>
      let (start, result) := startTime s.now given
      (countFrom start g x s, result)
    | _, _ => (s, .refusedState)
  else (s, .refusedState)

/-! ## The stop (R153 to R170) -/

/-- Raise a STOP notice with an event (R167). -/
def raiseStop (ev : StopEvent) (s : State) : State :=
  let c := s.scu
  raiseNotice (.stop ev (c.stopRecord.map StopRecord.stopId) (c.stopRecord.map StopRecord.first)
    c.heldFrom c.stopSet c.stageClear c.restart c.showState) s

/-- Light or put out the STOP lamp; HOLD_ACTIVE follows it (R166). -/
def setLamp (on : Bool) (s : State) : State :=
  setCondition .holdActive on (s.onScu fun c => { c with lamp := on })

/-- Increase an origin's counter (R156, R168). -/
def Scu.countOrigin (o : Origin) (c : Scu) : Scu :=
  match o with
  | .stageLink => { c with stageLinkStops := satInc c.stageLinkStops }
  | .podiumLink => { c with podiumLinkStops := satInc c.podiumLinkStops }
  | .stageLine => { c with stageLineStops := satInc c.stageLineStops }
  | .podiumLine => { c with podiumLineStops := satInc c.podiumLineStops }

/-- The held-from state of a stop taken in a show state (R157). -/
def heldFromOf (st : ShowState) : HeldFrom := if st = .dark then .dark else .song

/-- The next stop id (R157). -/
def nextStopId (n : Nat) : Nat := if 255 ≤ n then 1 else n + 1

/-- Entry to HOLD by an origin (R157). The position record is kept, the count bars of a hold entered from COUNT_IN
among it, by the model's choice (R3, R4, R16; log entry 51). -/
def enterHold (o : Origin) (s : State) : State :=
  let id := nextStopId s.scu.stopId
  let s := s.onScu fun c =>
    { c with
      stopId := id
      stopRecord := some ⟨id, o, heldFromOf c.showState, s.now, c.position, c.showState, none⟩
      stageClear := false
      restart := none
      showState := .hold }
  let s := raiseStop .entry (raiseState none (setLamp true (handHold id o s)))
  s.onScu fun c => { c with holdEntries := c.holdEntries + 1 }

/-- An origin reaches the SCU (R156). -/
def addOrigin (o : Origin) (s : State) : State :=
  if s.scu.showState = .hold then
    if s.scu.stopSet.has o then s
    else
      raiseStop .added (s.onScu fun c =>
        { c.countOrigin o with stopSet := c.stopSet.put o true, stageClear := false, restart := none })
  else enterHold o (s.onScu fun c => { c.countOrigin o with stopSet := c.stopSet.put o true })

/-- Record how HOLD was left (R163, R164, R170). -/
def recordExit (e : StopExit) (s : State) : State :=
  s.onScu fun c => { c with stopRecord := c.stopRecord.map fun r => { r with exit := some (e, s.now) } }

/-- Exit from HOLD to PREPARING at the restart point (R163). A RESET_SHOW still being taken comes to its end first,
since its response shows DARK or HOLD (R194). -/
def exitPreparing (r : Restart) (s : State) : State :=
  let s := drainPdu (drainCue (finishReset s))
  let s := setPosition (s.store.positionAt r.song r.bar) s
  let s := s.onScu fun c => { c with armed := some (r.song, r.bar), stageClear := false }
  let s := recordExit .preparing (setShow .preparing s)
  let s := setLamp false (endOverrides (endBanner s))
  let s := raiseStop .exitPreparing (raiseState none (resolveAndJudge r.song r.bar s))
  s.onScu fun c => { c with exitsPreparing := satInc c.exitsPreparing }

/-- Exit from HOLD to DARK (R164). -/
def exitDark (s : State) : State :=
  let s := s.onScu fun c => { c with stageClear := false }
  let s := recordExit .dark (setShow .dark s)
  let s := raiseStop .exitDark (raiseState none (setLamp false (endBanner s)))
  s.onScu fun c => { c with exitsDark := satInc c.exitsDark }

/-- Judge the exit from HOLD (R162). -/
def judgeExit (s : State) : State :=
  if s.scu.showState = .hold ∧ s.scu.stopSet.isEmpty = true ∧ s.scu.stageClear = true then
    match s.scu.restart with
    | some r => exitPreparing r s
    | none => if s.scu.heldFrom = some .dark then exitDark s else s
  else s

/-- RELEASE (R160). -/
def releaseStep (s : State) : State × Result :=
  if s.scu.showState = .hold then
    (judgeExit (raiseStop .release (s.onScu fun c =>
      { c with stopSet := c.stopSet.put .stageLink false, stageClear := true })), .ok)
  else (s, .refusedState)

/-- RESTART_AT (R161). -/
def restartStep (song bar : Nat) (tempo : Option Nat) (s : State) : State × Result :=
  if s.scu.showState = .hold then
    if ((s.store.song song).map fun g => g.hasBar bar) = some true then
      let t := tempo.map (clampNat 30 300)
      (judgeExit (raiseStop .restartAt (s.onScu fun c =>
        { c with
          stopSet := c.stopSet.put .podiumLink false
          restart := some ⟨song, bar, t⟩ })), if t = tempo then .ok else .clamped)
    else (s.onScu fun c => { c with refusedRestarts := satInc c.refusedRestarts }, .notFound)
  else (s, .refusedState)

/-- A line release: in HOLD the line's origin is removed and the exit judged (R161). -/
def lineRelease (o : Origin) (s : State) : State :=
  if s.scu.showState = .hold then
    judgeExit (raiseStop .removed (s.onScu fun c => { c with stopSet := c.stopSet.put o false }))
  else s

/-! ## Stop lines (R154) -/

/-- The record of a stop line. -/
def Scu.line (c : Scu) : StopLine → LineRecord
  | .stage => c.stageLine
  | .podium => c.podiumLine

/-- Change the record of a stop line. -/
def Scu.onLine (l : StopLine) (f : LineRecord → LineRecord) (c : Scu) : Scu :=
  match l with
  | .stage => { c with stageLine := f c.stageLine }
  | .podium => { c with podiumLine := f c.podiumLine }

/-- The origin a stop line gives (R154). -/
def lineOrigin : StopLine → Origin
  | .stage => .stageLine
  | .podium => .podiumLine

/-- A line's pending change has held for 2,000 µs (R154). -/
def lineDue (l : StopLine) (s : State) : Bool :=
  match (s.scu.line l).since with
  | none => false
  | some t => reached (t + Config.lineHold) s

/-- A due pending change becomes the recorded level: a line stop or a line release (R154). -/
def settleLine (l : StopLine) (s : State) : State :=
  if lineDue l s then
    let level := !(s.scu.line l).level
    let s := s.onScu (Scu.onLine l fun r => { r with level := level, since := none })
    if level then addOrigin (lineOrigin l) s else lineRelease (lineOrigin l) s
  else s

/-- A line shows a level now (R154). -/
def LineRecord.shows (active : Bool) (now : Nat) (r : LineRecord) : LineRecord :=
  let r := { r with pin := active }
  if active = r.level then
    if r.since.isSome then { r with since := none, glitches := satInc r.glitches } else r
  else if r.since.isSome then r
  else { r with since := some now }

/-! ## RESET_SHOW (R170, R194) -/

/-- A line held active survives a show reset: its origin is added again (R170). -/
def readdLine (s : State) (l : StopLine) : State :=
  if (s.scu.line l).level then addOrigin (lineOrigin l) s else s

/-- What RESET_SHOW does at the SCU to a stop in force (R170). The STATE notice is raised between HOLD_ACTIVE's
CONDITION notice and the STOP notice, by the model's choice (log entry 75). -/
def endStopByReset (s : State) : State :=
  if s.scu.showState = .hold then
    raiseStop .resetShow (raiseState none (setLamp false (endBanner (recordExit .resetShow (setShow .dark s)))))
  else s

/-- RESET_SHOW is taken: the SCU's own effects, the hand-over of the reset to the blocks, and the reading of the
stop lines. Its response is owed until the blocks have taken the reset (R3, R170, R194). Of two active lines the stage
line is read first, so that its origin is the new stop's first (log entry 68). -/
def resetShowTaken (s : State) : State :=
  let s := s.onScu fun c =>
    { c with stopSet := default, stageClear := false, restart := none, position := default, armed := none }
  let s := [StopLine.stage, StopLine.podium].foldl readdLine (handReset (endStopByReset s))
  s.onLku fun k => { k with resetOwed := true }

/-- The next frame of the Rig Link finds a RESET_SHOW whose response is owed: it comes to its end first, since a
link's request is taken whole before its next one (R176, R194). -/
def settleReset (l : Link) (s : State) : State := if l = .rig then finishReset s else s

end Sys2Proof.Machine
end

