-- ==== Sys2Proof/Machine/LinkOps.lean ====
section
/-! DEFINITION. The Link Unit's shared operations: the judging of a frame and of a run (R173, R175), the taking
of a request (R176 to R178), a break (R174), CLEAR_STATUS (R180) and the sending of responses and notices
(R172, R177, R183). -/

namespace Sys2Proof.Machine

/-! ## Rights (R178) -/

def stageOnly : Link → Bool
  | .stage => true
  | _ => false

def podiumOnly : Link → Bool
  | .podium => true
  | _ => false

def rigOnly : Link → Bool
  | .rig => true
  | _ => false

def stageOrPodium : Link → Bool
  | .rig => false
  | _ => true

def anyLink : Link → Bool := fun _ => true

/-! ## Bad frames (R173, R176) -/

/-- The link's response queue holds 8 responses (R176 step 1). -/
def State.isFull (s : State) (l : Link) : Bool := decide (Config.responseMax ≤ (s.lku.link l).responses.length)

/-- A request or bad frame that finds the response queue full: an overrun (R176 step 1). -/
def overrun (l : Link) (s : State) : State :=
  s.onLink l fun r => { r with overruns := satInc r.overruns, overrun := true }

/-- A bad frame, or an abandoned run, is answered with one BAD_FRAME (R173, R175, R176). With the response queue full
it is an overrun: R176 says so of a bad frame, and of a run that a good frame abandons it is the model's choice (log
entry 91). -/
def answerBad (l : Link) (s : State) : State :=
  if s.isFull l then overrun l s
  else respond l 0 .badFrame [] false (s.onLink l fun r => { r with badFrames := satInc r.badFrames })

/-- A frame judged bad: the link returns to HUNT, and an open run is abandoned with it under one answer
(R173, R175). -/
def judgeBad (l : Link) (s : State) : State :=
  answerBad l ((settleReset l s).onLink l fun r =>
    { r with
      recv := .hunt
      discarding := match r.run with
        | some x => some x.code
        | none => r.discarding
      run := none })

/-! ## Runs of frames (R175) -/

/-- What a good frame leaves to be judged: nothing, or a request with its whole payload. -/
abbrev Arrival := State × Option (List Byte)

/-- A good frame of a code with no run open and nothing discarded. -/
def openOrWhole (l : Link) (code : Byte) (more : Bool) (p : List Byte) (s : State) : Arrival :=
  if more then (s.onLink l fun r => { r with run := some ⟨code, p⟩ }, none) else (s, some p)

/-- A good frame adds its payload to the open run of its code. -/
def extendRun (l : Link) (code : Byte) (more : Bool) (p : List Byte) (x : Run) (s : State) : Arrival :=
  let bytes := x.bytes ++ p
  if Config.runMax < bytes.length then
    (answerBad l (s.onLink l fun r => { r with run := none, discarding := some code }), none)
  else if more then (s.onLink l fun r => { r with run := some ⟨code, bytes⟩ }, none)
  else (s.onLink l fun r => { r with run := none }, some bytes)

/-- A good frame arrives; a RESET_SHOW of the same link that is still being taken comes to its end first (R175,
R176). -/
def arrive (l : Link) (code : Byte) (more : Bool) (p : List Byte) (s : State) : Arrival :=
  let s := (settleReset l s).onLink l fun r => { r with recv := .hunt }
  match (s.lku.link l).discarding with
  | some c =>
    if c = code then
      (if more then s else s.onLink l fun r => { r with discarding := none }, none)
    else openOrWhole l code more p (s.onLink l fun r => { r with discarding := none })
  | none =>
    match (s.lku.link l).run with
    | none => openOrWhole l code more p s
    | some x =>
      if x.code = code then extendRun l code more p x s
      else openOrWhole l code more p (answerBad l (s.onLink l fun r => { r with run := none }))

/-! ## Requests (R176) -/

/-- What a request's owner answers: the state after it, the result, and the response's data. -/
abbrev Answer := State × Result × List Byte

/-- A result without data. -/
def plain (x : State × Result) : Answer := (x.1, x.2, [])

/-- A read: nothing changes, and the result is OK with its data. -/
def readOk (data : List Byte) (s : State) : Answer := (s, .ok, data)

/-- A read whose key may be refused. -/
def readKeyed (r : Result) (data : List Byte) (s : State) : Answer :=
  (s, r, if r = .ok then data else [])

/-- The LKU judges a completed request with its whole payload (R176). -/
def judge {α : Type} (l : Link) (code : Nat) (rights : Link → Bool) (parse : List Byte → Option α)
    (owner : α → State → Answer) (reboots : Bool) (p : List Byte) (s : State) : State :=
  let c := BitVec.ofNat 8 code
  if s.isFull l then overrun l s
  else
    let s := s.onLink l fun r => { r with requests := r.requests + 1 }
    if rights l = false then
      respond l c .refusedRight [] false (s.onLink l fun r => { r with refusals := satInc r.refusals })
    else
      match parse p with
      | none => respond l c .range [] false s
      | some a =>
        let (s, result, data) := owner a s
        respond l c result data reboots s

/-- What a frame that completes a request, or its run, comes to (R175, R176). -/
def completed (l : Link) (code : Nat) (p : List Byte) (judged : List Byte → State → State) (s : State) : State :=
  match arrive l (BitVec.ofNat 8 code) false p s with
  | (s, none) => s
  | (s, some whole) => judged whole s

/-- The last, or only, frame of a request arrives on a link (R175, R176); `reboots` marks REBOOT, whose OK
response ends in the reboot (R177). -/
def requestWith {α : Type} (reboots : Bool) (l : Link) (code : Nat) (rights : Link → Bool)
    (parse : List Byte → Option α) (owner : α → State → Answer) (p : List Byte) (s : State) : State :=
  completed l code p (judge l code rights parse owner reboots) s

/-- The last, or only, frame of a request other than REBOOT arrives on a link. -/
def request {α : Type} (l : Link) (code : Nat) (rights : Link → Bool) (parse : List Byte → Option α)
    (owner : α → State → Answer) (p : List Byte) (s : State) : State :=
  requestWith false l code rights parse owner p s

/-- A frame of a code that names no request (R176 step 2). -/
def judgeUnknown (l : Link) (code : Byte) (s : State) : State :=
  if s.isFull l then overrun l s
  else respond l code .range [] false (s.onLink l fun r => { r with requests := r.requests + 1 })

/-! ## Break (R174) -/

/-- A break is taken on a link (R174). -/
def takeBreak (l : Link) (s : State) : State :=
  s.onLink l fun r =>
    { r with
      recv := .hunt, run := none, discarding := none, notices := [], captured := 0
      breaks := satInc r.breaks }

/-! ## CLEAR_STATUS, SET_MASKS (R180, R181) -/

/-- Each latched bit whose condition is false on every link clears (R180). -/
def clearLatched (s : State) : State :=
  s.onLku fun k =>
    { k with
      latched := k.latched &&& (k.current ||| k.stage.captured ||| k.podium.captured ||| k.rig.captured) }

/-- The mask of conditions 0 to 14. -/
def conditionMask : Mask := 0x7FFF

/-- The mask of the ten notice kinds (R184). -/
def noticeKindMask : Mask := 0x07FE

/-- A mask, if carried, names nothing outside a set. -/
def maskInside (all : Mask) (m : Option Mask) : Bool := m.all fun x => (x &&& ~~~all) == 0#16

/-- SET_MASKS on its own link (R181). -/
def setMasksStep (l : Link) (e w n : Option Mask) (s : State) : State × Result :=
  if maskInside conditionMask e && maskInside conditionMask w && maskInside noticeKindMask n then
    (s.onLink l fun r =>
      { r with eMask := e.getD r.eMask, wMask := w.getD r.wMask, noticeMask := n.getD r.noticeMask }, .ok)
  else (s, .range)

/-! ## Sending (R172, R177, R183) -/

/-- A link's transmit side is free: nothing is being sent, and no reboot waits on what was (R172, R177). -/
def txFree (l : Link) (s : State) : Bool :=
  match (s.lku.link l).tx with
  | none => true
  | some t => reached t.endTime s && !t.reboots

/-- Begin to send bytes on a link now, 10 µs each (R172). -/
def beginTx (l : Link) (bytes : List Byte) (reboots : Bool) (s : State) : State :=
  s.onLink l fun r => { r with tx := some ⟨bytes, s.now + Config.linkByte * bytes.length, reboots⟩ }

/-- The transmit side, free, begins the oldest response (R177). -/
def sendResponse (l : Link) (s : State) : State :=
  match (s.lku.link l).responses with
  | [] => s
  | r :: rest =>
    if txFree l s then beginTx l r.bytes r.reboots (s.onLink l fun k => { k with responses := rest }) else s

/-- The transmit side, free and with no response queued, begins the head of the notice queue (R183). -/
def sendNotice (l : Link) (s : State) : State :=
  match (s.lku.link l).responses, (s.lku.link l).notices with
  | [], n :: rest =>
    if txFree l s then
      beginTx l n.bytes false (s.onLink l fun k =>
        { k with notices := rest, noticesSent := k.noticesSent + 1 })
    else s
  | _, _ => s

/-- Some link has sent the last byte of a REBOOT response (R177). -/
def rebootDue (s : State) : Bool :=
  allLinks.any fun l =>
    match (s.lku.link l).tx with
    | none => false
    | some t => t.reboots && reached t.endTime s

end Sys2Proof.Machine
end

