-- ==== Sys2Proof/Decode.lean ====
section
/-! DEFINITION. Commands read from words and frames: no row of the opcode table gives bits, so no word spells a
command; the bytes of a link frame (R172, R173, R184, R186) and of a pit bus frame (R102, R105, R185) do. -/

namespace Sys2Proof

/-- The command a word of the opcode table's bits spells: none, since no row gives bits. -/
def decodeTableWord (_nbits _w : Nat) : Option Instr := none

namespace Machine

/-! ## Link frames (R173, R184, R186) -/

/-- The request of a code on a link, with the payload of its last frame (R186). -/
def requestOf (l : Link) (code : Nat) (p : List Byte) : Option Instr :=
  match code with
  | 1 => some (.go l p) | 2 => some (.standby l p) | 3 => some (.release l p) | 4 => some (.arm l p)
  | 5 => some (.stop l p) | 6 => some (.count l p) | 7 => some (.restartAt l p) | 8 => some (.vampExit l p)
  | 9 => some (.tempo l p) | 10 => some (.handover l p) | 11 => some (.ackPanic l p)
  | 12 => some (.ackPanicAll l p) | 16 => some (.writeSong l p) | 17 => some (.deleteSong l p)
  | 18 => some (.writePattern l p) | 19 => some (.writeCue l p) | 20 => some (.deleteCue l p)
  | 21 => some (.writeRoster l p) | 22 => some (.writeLaneBase l p) | 23 => some (.writeFeedBase l p)
  | 24 => some (.seal l p) | 25 => some (.lock l p) | 26 => some (.unlock l p) | 27 => some (.resetShow l p)
  | 28 => some (.reboot l p) | 32 => some (.setEstimator l p) | 33 => some (.setDispatch l p)
  | 34 => some (.setProbe l p) | 35 => some (.setFeedMeasure l p) | 36 => some (.setLane l p)
  | 37 => some (.setFeed l p) | 40 => some (.clearStatus l p) | 41 => some (.setMasks l p)
  | 42 => some (.forceE l p) | 43 => some (.forceW l p) | 48 => some (.readShow l p)
  | 49 => some (.readStop l p) | 50 => some (.readSong l p) | 51 => some (.readPattern l p)
  | 52 => some (.readStoreSpace l p) | 53 => some (.readCue l p) | 54 => some (.readCues l p)
  | 55 => some (.readRoster l p) | 56 => some (.readLaneBase l p) | 57 => some (.readFeedBase l p)
  | 58 => some (.readTempo l p) | 59 => some (.readEstimator l p) | 60 => some (.readCaptureLog l p)
  | 61 => some (.readDispatch l p) | 62 => some (.readStation l p) | 63 => some (.readBus l p)
  | 64 => some (.readLane l p) | 65 => some (.readLanes l p) | 66 => some (.readVideo l p)
  | 67 => some (.readStatus l p) | 68 => some (.readSeal l p)
  | _ => none

/-- The command that a frame's bytes after SYNC bring to a link: a bad frame, a frame of a run, a request, or
a request of no name (R173, R175, R176). A kind byte with one of its bits 6-2 set is no REQUEST of R184's layout and
bad (log entry 69). -/
def linkCommand (l : Link) (bs : List Byte) : Instr :=
  match bs with
  | kind :: code :: len :: rest =>
    let n := len.toNat
    let p := rest.take n
    if Config.frameMax < n ∨ rest.length ≠ n + 1 ∨
        rest.getLast? ≠ some (crc8 (kind :: code :: len :: p)) then .badFrame l
    else if kind = 0x81 then .runFrame l code p
    else if kind = 0x01 then (requestOf l code.toNat p).getD (.unknownRequest l code p)
    else .badFrame l
  | _ => .badFrame l

/-- The link frame that carries a request, as its master sends it (R184): the link, and the bytes from
SYNC to CRC-8. -/
def encodeRequest (i : Instr) : Option (Link × List Byte) :=
  match codeOf i, payloadOf i with
  | some c, some (l, p) => some (l, linkFrame 1 false (BitVec.ofNat 8 c) p)
  | _, _ => none

/-! ## Pit bus frames (R105, R185) -/

/-- The report of a kind code and its content, of a length its kind allows (R112, R185). -/
def reportOf (kind : Nat) (body : List Byte) : Option Report :=
  match kind, body with
  | 12, [layer, p1, p0] => some (.done layer.toNat (beVal [p1, p0]))
  | 13, [layer, p1, p0] => some (.fault layer.toNat (beVal [p1, p0]))
  | 14, [player] => some (.panic player.toNat)
  | 15, [a, b, c] => some (.join (beVal [a, b, c]))
  | _, _ => none

/-- The command that an intact station frame brings, by its kind and its body after the loss tally; `t4` is
the show time at which its header began (R105, R185). -/
def stationCommand (st t4 kind tally : Nat) (body : List Byte) : Instr :=
  match kind, body with
  | 8, [] => .ack st tally
  | 9, [] => .nak st tally
  | 10, [a, b, c, d, e, f, g, h] => .probeReply st tally (beVal [a, b, c, d]) (beVal [e, f, g, h]) t4
  | 11, [] => .pollReply st tally none
  | 11, k :: content =>
    match reportOf k.toNat content with
    | some r => .pollReply st tally (some r)
    | none => .damagedFrame
  | _, _ =>
    match reportOf kind body with
    | some r => .attention st tally r
    | none => .damagedFrame

/-- An outbound kind's body length is one it allows (R185). -/
def outboundLength (kind n : Nat) : Bool :=
  match kind with
  | 1 => n == 3 || n == 7
  | 2 => n == 3
  | 3 | 4 | 5 | 6 => n == 0
  | _ => false

/-- The command that a pit bus frame from another party brings: its header's address and direction, its bytes
after the header, and the show time its header began (R102, R105, R106, R185). -/
def busCommand (address : Nat) (direction : Bool) (bs : List Byte) (t4 : Nat) : Instr :=
  match bs with
  | [] => .damagedFrame
  | k :: rest =>
    let kind := k.toNat / 16
    let n := k.toNat % 16
    let body := rest.take n
    if rest.length ≠ n + 1 ∨ rest.getLast? ≠ some (crc8 (k :: body)) then .damagedFrame
    else if direction = false ∨ isStation address = false then .unexpectedFrame
    else if outboundLength kind n then .unexpectedFrame
    else
      match body with
      | [] => .damagedFrame
      | tally :: content => stationCommand address t4 kind tally.toNat content

end Machine

end Sys2Proof
end

