-- ==== Sys2Proof/Machine/StoreOps.lean ====
section
/-! DEFINITION. The Show Store's shared operations: the checks of every store write (R22 to R27, R62, R63,
R114, R125, R140), the seal (R189, R190), the background check (R191) and the storage fault. -/

namespace Sys2Proof.Machine

/-! ## Seal and READY (R189 to R191) -/

/-- Drive READY: asserted while the store is sealed and the check state is GOOD (R191). -/
def Store.driveReady (st : Store) : Store := { st with ready := st.sealedCrc.isSome && !st.mismatch }

/-- The store's two conditions follow the seal record (R179, R189, R191). -/
def sealConditions (s : State) : State :=
  setCondition .storeCrc s.store.mismatch (setCondition .storeUnsealed s.store.sealedCrc.isNone s)

/-- A store write that is made unseals the store (R189). -/
def breakSeal (s : State) : State :=
  sealConditions (s.onStore fun st =>
    ({ st with sealedCrc := none, mismatch := false, passEnd := none, passRead := 0, passMissed := [] }).driveReady)

/-- The written part holds the bytes written. -/
def Store.rewritten (st : Store) (ps : List StorePart) : Store :=
  { st with altered := st.altered.filter fun x => !(ps.contains x.1) }

/-- A store write is made: the content of the named parts changes and the store is unsealed (R22, R189). -/
def makeWrite (ps : List StorePart) (f : Store → Store) (s : State) : State :=
  breakSeal (s.onStore fun st => (f st).rewritten ps)

/-- SEAL (R190): the result, and the computed CRC as its data. -/
def sealStep (expected : Nat) (s : State) : State × Result × Nat :=
  let crc := s.store.crc
  if crc = expected then
    (sealConditions (s.onStore fun st =>
      ({ st with
        sealedCrc := some crc, mismatch := false
        passEnd := some (s.now + Config.passLength), passRead := 0, passMissed := [] }).driveReady), .ok, crc)
  else if s.store.sealedCrc.isSome then (breakSeal s, .crcMismatch, crc)
  else (s, .crcMismatch, crc)

/-- The end of a background pass, and the beginning of the next (R191). -/
def endPass (s : State) : State :=
  match s.store.passEnd with
  | none => s
  | some t =>
    if reached t s then
      let crc := s.store.passCrc
      let s := s.onStore fun st =>
        { st with
          passEnd := some (t + Config.passLength), passRead := 0, passMissed := [], passes := st.passes + 1 }
      if s.store.sealedCrc = some crc then s
      else
        sealConditions (s.onStore fun st =>
          ({ st with mismatch := true, mismatches := st.mismatches + 1, lastFailing := some crc }).driveReady)
    else s

/-! ## Checks common to every write (R22) -/

/-- The state and lock checks of a store write (R22 steps 2 and 3). -/
def writeCheck (s : State) : Option Result :=
  if s.scu.showState = .dark ∨ s.scu.showState = .hold then
    if s.store.locked then some .locked else none
  else some .refusedState

/-- A write whose own checks have answered: made, or refused with nothing changed. -/
def writeStep (check : State → Option Result) (effect : State → State) (s : State) : State × Result :=
  match writeCheck s with
  | some r => (s, r)
  | none =>
    match check s with
    | some r => (s, r)
    | none => (effect s, .ok)

/-- The first of two checks that answers. -/
def orCheck (a b : Option Result) : Option Result :=
  match a with
  | some r => some r
  | none => b

/-- A check that answers a result when its test holds. -/
def failIf (test : Bool) (r : Result) : Option Result := if test then some r else none

/-! ## Songs (R23 to R26) -/

/-- A number lies within inclusive bounds. -/
def within (lo hi x : Nat) : Bool := decide (lo ≤ x) && decide (x ≤ hi)

/-- A segment's own fields are in range (R23). -/
def Segment.valid (x : Segment) : Bool :=
  within 1 999 x.barCount && within 1 12 x.meter && within 0 15 x.pattern &&
  within Config.periodMin Config.periodMax x.pmin && within Config.periodMin Config.periodMax x.pmax &&
  decide (x.pmin ≤ x.pmax) && x.fixed.all (within x.pmin x.pmax)

/-- Each segment begins where the one before ends (R23). -/
def contiguous : List Segment → Bool
  | a :: b :: rest => b.firstBar == a.firstBar + a.barCount && contiguous (b :: rest)
  | _ => true

/-- No two opening entries name one station and layer (R23). -/
def distinctOpening : List Opening → Bool
  | [] => true
  | o :: os => os.all (fun p => !(p.station == o.station && p.layer == o.layer)) && distinctOpening os

/-- An opening entry's fields are in range (R19, R23). -/
def Opening.valid (o : Opening) : Bool := within 1 14 o.station && within 0 7 o.layer && within 0 4095 o.patch

/-- A song record passes R23. -/
def Song.valid (g : Song) : Bool :=
  within 1 64 g.number && g.segue.all (within 1 64) && within 1 32 g.segments.length &&
  g.segments.head?.all (fun x => x.firstBar == 1) && contiguous g.segments && within 0 9999 g.lastBar &&
  g.segments.all Segment.valid && within 0 2 g.countIn && within 0 32 g.opening.length &&
  g.opening.all Opening.valid && distinctOpening g.opening

/-- A cue's chart place and lead are valid against a song (R25, R62). -/
def Song.admits (g : Song) (c : Cue) : Bool :=
  match c.kind with
  | .go bar => g.hasBar bar
  | .position bar beat lead _ =>
    match g.segmentAt bar with
    | none => false
    | some x =>
      g.hasBar bar && within 1 x.meter beat && within 0 8 lead && decide ((lead : Int) ≤ x.beatIndex bar beat)

/-- The segment records in use by songs other than `n` (R24). -/
def Store.segmentsBut (st : Store) (n : Nat) : Nat :=
  (st.songs.map fun o => match o with
    | none => 0
    | some g => if g.number = n then 0 else g.segments.length).sum

/-- The free segment records (R24, R28). -/
def Store.segmentsFree (st : Store) : Nat := Config.segmentPool - st.segmentsBut 0

/-- In HOLD held from a song, the SCU holds song `n` (R26). -/
def holdsSong (n : Nat) (s : State) : Bool :=
  s.scu.showState == .hold && s.scu.heldFrom == some .song &&
    (s.scu.position.place.map Place.song == some n || s.scu.armed.map Prod.fst == some n ||
      s.scu.restart.map Restart.song == some n)

/-- The checks of WRITE_SONG in the order R23, R26, R25, R24. A tempo mode or vamp byte of no value (`ok` false) is
judged with R23's list and answers RANGE (log entry 53). -/
def writeSongCheck (ok : Bool) (g : Song) (s : State) : Option Result :=
  orCheck (failIf (!(ok && g.valid)) .range) <|
  orCheck (failIf (holdsSong g.number s) .refusedState) <|
  orCheck (failIf (s.store.cues.any fun e => e.cue.song == g.number && !(g.admits e.cue)) .range) <|
  failIf (decide (Config.segmentPool < s.store.segmentsBut g.number + g.segments.length)) .full

/-- A song's record is set or removed. -/
def Store.setSong (n : Nat) (g : Option Song) (st : Store) : Store :=
  { st with songs := upd1 st.songs n fun _ => g }

/-- A write of song `n` that is made clears what the SCU holds of it (R26). -/
def clearHeld (n : Nat) (s : State) : State :=
  let s :=
    if s.scu.position.place.map Place.song = some n ∨ s.scu.armed.map Prod.fst = some n then
      (s.onScu fun c => { c with position := default, armed := none }).onCue fun q => { q with goPointer := none }
    else s
  if s.scu.showState = .hold ∧ s.scu.restart.map Restart.song = some n then
    s.onScu fun c => { c with restart := none }
  else s

/-- The store's write of a song, or its removal, as its requests make it in DARK and in HOLD held from
DARK (R24, R26). In HOLD held from a song the SCU holds no song that may be written. -/
def songWritten (n : Nat) (g : Option Song) (s : State) : State :=
  let s := makeWrite [.song n] (Store.setSong n g) s
  if s.scu.showState = .hold ∧ s.scu.heldFrom = some .song then s else clearHeld n s

/-- The checks of DELETE_SONG in the order R26, R25, R24. -/
def deleteSongCheck (n : Nat) (s : State) : Option Result :=
  orCheck (failIf (holdsSong n s) .refusedState) <|
  orCheck (failIf (s.store.cues.any fun e => e.cue.song == n) .range) <|
  orCheck (failIf (!(within 1 64 n)) .range) <|
  failIf (s.store.song n).isNone .notFound

/-! ## Cues (R60 to R63) -/

/-- A mask names no empty set and only numbers within bounds. -/
def maskOk (lo hi : Nat) (m : Mask) : Bool := m != 0#16 && maskWithin lo hi m

/-- An action's content lies within R61. -/
def Action.valid : Action → Bool
  | .patch st layer p _ => within 1 14 st && within 0 7 layer && within 0 4095 p
  | .lane lanes _ pattern => maskOk 1 16 lanes && pattern.all (within 0 15)
  | .feed feeds source overlay =>
    maskOk 1 6 feeds && (source.isSome || overlay.isSome) && overlay.all (maskWithin 0 4)
  | .vampExit => true
  | .tempo fixed => fixed.all (within Config.periodMin Config.periodMax)

/-- The actions in use of the pool (R61). -/
def Store.actionsUsed (st : Store) : Nat := (st.cues.map fun e => e.cue.actions.length).sum

/-- The free actions of the pool (R61, R78). -/
def Store.actionsFree (st : Store) : Nat := Config.actionPool - st.actionsUsed

/-- The checks of WRITE_CUE: steps 4 and 5 of R62. -/
def writeCueCheck (ok : Bool) (c : Cue) (s : State) : Option Result :=
  orCheck (failIf (!(ok && within 1 9999 c.id && (s.store.cue c.id).isNone && within 1 16 c.actions.length &&
    c.actions.all Action.valid && (s.store.song c.song).any fun g => g.admits c)) .range) <|
  failIf (decide (Config.cueMax ≤ s.store.cues.length) ||
    decide (Config.actionPool < s.store.actionsUsed + c.actions.length)) .full

/-- Put a cue at its place in cue id order (R60). -/
def insertCue (e : CueEntry) : List CueEntry → List CueEntry
  | [] => [e]
  | d :: ds => if e.cue.id < d.cue.id then e :: d :: ds else d :: insertCue e ds

/-- WRITE_CUE's effect (R62 step 6). -/
def cueWritten (c : Cue) (s : State) : State :=
  makeWrite [.cueCount, .cue c.id] (fun st => { st with cues := insertCue ⟨c, none, false⟩ st.cues }) s

/-- The checks of DELETE_CUE (R63). -/
def deleteCueCheck (id : Nat) (s : State) : Option Result :=
  orCheck (failIf (!(within 1 9999 id)) .range) (failIf (s.store.cue id).isNone .notFound)

/-- DELETE_CUE's effect: the entry goes, and the pointer and standby cue move off it (R63). -/
def cueDeleted (id : Nat) (s : State) : State :=
  let song := ((s.store.cue id).map fun e => e.cue.song).getD 0
  let s := makeWrite [.cueCount, .cue id]
    (fun st => { st with cues := st.cues.filter fun e => e.cue.id != id }) s
  let s :=
    if s.cue.goPointer = some id then
      s.onCue fun q => { q with goPointer := s.store.firstGo song fun c => decide (id < c.id) }
    else s
  if s.cue.standby = some id then setStandby none s else s

/-! ## Patterns, roster, lane and feed base records -/

/-- A pattern's levels are in range (R27). -/
def Pattern.valid (p : Pattern) : Bool := p.accents.all (within 0 3) && within 0 3 p.sub

/-- A list names no number twice. -/
def distinct : List Nat → Bool
  | [] => true
  | a :: as => !(as.contains a) && distinct as

/-- The roster a WRITE_ROSTER carries is valid (R114). -/
def rosterValid (r : List Nat) : Bool := decide (r.length ≤ 14) && r.all (within 1 14) && distinct r

/-- A station the new roster drops becomes ABSENT (R114). STATION_CUT's CONDITION notice is raised before
the notices that R114 lists, by the model's choice (log entry 75). -/
def dropStation (s : State) (st : Nat) : State :=
  let s := s.onStation st fun r =>
    { r with
      state := .absent, offset := none, patches := List.replicate 8 none, streak := 0, goodProbes := 0
      lossCounter := 0, starved := false, nextProbe := none, nextPoll := none }
  raiseStation st .roster (discardQueue st (stationCutCondition s))

/-- WRITE_ROSTER's effect; the roster is held in ascending order (R114). -/
def rosterWritten (r : List Nat) (s : State) : State :=
  let dropped := s.store.roster.filter fun n => !(r.contains n)
  let s := makeWrite [.roster] (fun st => { st with roster := (upTo 14).filter r.contains }) s
  dropped.foldl dropStation s

/-- A lane base record is valid (R125). -/
def LaneBase.valid (b : LaneBase) : Bool :=
  [1, 2, 3, 4, 6, 8].contains b.subdivision && within 0 80000 b.base && b.follow.all (within 1 6) &&
  within 0 31 b.weak && within 0 31 b.normal && within 0 31 b.accent

/-- WRITE_LANE_BASE's effect (R125). -/
def laneBaseWritten (n : Nat) (b : LaneBase) (s : State) : State :=
  recomputeOffset n
    (makeWrite [.lane n] (fun st => { st with laneBases := upd1 st.laneBases n fun _ => b }) s)

/-- A feed base record is valid (R140). -/
def FeedBase.valid (b : FeedBase) : Bool := within 0 200000 b.threshold && within 0 6 b.depth

/-- WRITE_FEED_BASE's effect (R140). -/
def feedBaseWritten (n : Nat) (b : FeedBase) (s : State) : State :=
  judgeLatency n
    (makeWrite [.feed n] (fun st => { st with feedBases := upd1 st.feedBases n fun _ => b }) s)

/-! ## Storage faults (R191) -/

/-- A part's records read back from altered bytes, where the bytes still spell a record of the same key; none
where they do not. -/
def Store.reread (st : Store) (p : StorePart) (bs : List Byte) : Option Store :=
  match p with
  | .song n =>
    match bs with
    | [] => none
    | b :: rest =>
      if b = 1 then
        match whole (readSong rest) with
        | some (_, g) => if g.number = n then some (st.setSong n (some g)) else none
        | none => none
      else none
  | .pattern n =>
    (whole (readPatternBytes bs)).map fun x => { st with patterns := st.patterns.set n x }
  | .cueCount => none
  | .cue id =>
    match whole (readCueEntry bs) with
    | some (_, c) =>
      if c.id = id then
        some { st with cues := st.cues.map fun e => if e.cue.id = id then { e with cue := c } else e }
      else none
    | none => none
  | .roster =>
    some { st with roster := (upTo 14).filter fun n => (beVal bs).testBit n }
  | .lane n => (whole (readLaneBaseBytes bs)).map fun x => { st with laneBases := upd1 st.laneBases n fun _ => x }
  | .feed n => (whole (readFeedBaseBytes bs)).map fun x => { st with feedBases := upd1 st.feedBases n fun _ => x }

/-- The store after the bytes of a part are altered: the records where they read back to those very bytes,
otherwise the bytes alone (log entry 7). -/
def Store.alter (st : Store) (p : StorePart) (bs : List Byte) : Store :=
  let clean := st.rewritten [p]
  match clean.reread p bs with
  | some st' => if st'.recordBytes p = bs then st' else { clean with altered := (p, bs) :: clean.altered }
  | none => { clean with altered := (p, bs) :: clean.altered }

/-- Whether the store's image has a part. -/
def Store.hasPart (st : Store) (p : StorePart) : Bool := st.parts.contains p

/-- The place of a part's first byte in the store image (R188). -/
def Store.partStart (st : Store) (p : StorePart) : Nat :=
  ((st.parts.takeWhile fun x => x != p).flatMap st.partBytes).length

/-- The pass in progress reads on, by a free number of bytes (R191; log entry 4). -/
def passGoesOn (s : State) : State :=
  if s.store.passEnd.isSome then
    (s.onStore fun st => { st with passRead := st.passRead + Config.passProgress s.freeIdx }).nextFree
  else s

/-- A storage fault strikes one byte of the image: the content changes, and the pass in progress, which reads each
byte once in image order, had read the old byte if it had come past its place (R191; log entry 4). -/
def strike (p : StorePart) (offset : Nat) (value : Byte) (s : State) : State :=
  let bs := s.store.partBytes p
  match bs[offset]? with
  | none => s
  | some old =>
    if s.store.hasPart p = false ∨ old = value then s
    else
      let place := s.store.partStart p + offset
      (passGoesOn s).onStore fun st =>
        let read := st.passEnd.isSome && decide (place < st.passRead)
        let st := st.alter p (bs.set offset value)
        if read then { st with passMissed := st.passMissed ++ [(p, offset, old)] } else st

end Sys2Proof.Machine
end

