-- ==== Sys2Proof/Machine/Reads.lean ====
section
/-! DEFINITION. The data of every read's response: the fields in the order the owning rule lists them, in the
widths of R184 and R187, with R188's layouts for store records but for fields that may be none (log entry 8). -/

namespace Sys2Proof.Machine

/-! ## The show and the stop (R18, R168) -/

/-- READ_SHOW's data (R18), the held-from state behind a presence byte by the model's choice (log entry 97). -/
def showData (s : State) : List Byte :=
  be 1 s.scu.showState.code ++
  beOpt (fun h => be 1 (HeldFrom.code h)) (if s.scu.showState = .hold then s.scu.heldFrom else none) ++
  bePosition s.scu.position ++ beOpt (fun a : Nat × Nat => be 1 a.1 ++ be 2 a.2) s.scu.armed ++
  beOpt beRestart s.scu.restart ++ beTime s.now

/-- A stop line's level and pending change (R168); an active level is sent as 1, by the model's choice (log entry 84).
-/
def beLine (r : LineRecord) : List Byte := beBool r.level ++ beOpt beTime r.since

/-- The stop record's fields, each absent while the stop id is none (R153, R168; log entry 8). The position at entry
and the show state it was taken from stand behind one presence byte, and so do the exit and its time (log entry 80). -/
def beStopRecord (r : Option StopRecord) : List Byte :=
  beOpt (fun x : StopRecord => be 1 x.stopId) r ++ beOpt (fun x : StopRecord => be 1 x.first.code) r ++
  beOpt (fun x : StopRecord => be 1 x.heldFrom.code) r ++ beOpt (fun x : StopRecord => beTime x.entryTime) r ++
  beOpt (fun x : StopRecord => bePosition x.position ++ be 1 x.takenFrom.code) r ++
  beOpt (fun e : StopExit × Nat => be 1 e.1.code ++ beTime e.2) (r.bind StopRecord.exit)

/-- READ_STOP's data (R168). The stage line's fields and glitch counter stand before the podium line's, and the four
origin counters in the order of the origins in R153, by the model's choice (log entry 84). -/
def stopData (s : State) : List Byte :=
  let c := s.scu
  be 1 c.stopSet.code ++ beBool c.stageClear ++ beOpt beRestart c.restart ++ beStopRecord c.stopRecord ++
  be 1 c.stopId ++ beLine c.stageLine ++ beLine c.podiumLine ++ be 4 c.holdEntries.toNat ++
  be 2 c.stageLinkStops.toNat ++ be 2 c.podiumLinkStops.toNat ++ be 2 c.stageLineStops.toNat ++
  be 2 c.podiumLineStops.toNat ++ be 2 c.exitsPreparing.toNat ++ be 2 c.exitsDark.toNat ++
  be 2 c.refusedRestarts.toNat ++ be 2 c.stageLine.glitches.toNat ++ be 2 c.podiumLine.glitches.toNat

/-! ## Charts and cues (R28, R63, R78) -/

/-- READ_SONG's data for a defined song (R28). -/
def songData (g : Song) : List Byte :=
  be 1 g.number ++ be 1 g.countIn ++ beOpt (be 1) g.segue ++ beList Opening.bytes g.opening ++
  beList Segment.bytes g.segments

/-- READ_STORE_SPACE's data (R28). -/
def spaceData (st : Store) : List Byte :=
  be 1 (st.songs.filter Option.isSome).length ++ be 2 st.segmentsFree

/-- READ_CUE's data for a cue in the table (R63). -/
def cueData (e : CueEntry) : List Byte := e.cue.bytes ++ beOpt (be 1) e.fired ++ beBool e.dueAtStart

/-- READ_CUES's data (R78). -/
def cuesData (s : State) : List Byte :=
  beOpt (be 2) s.cue.goPointer ++ beOpt (be 2) s.cue.standby ++ be 2 s.store.cues.length ++
  be 2 s.store.actionsFree ++ be 4 s.cue.goRun.toNat ++ be 4 s.cue.fired.toNat ++ be 4 s.cue.skipped.toNat ++
  be 4 s.cue.actions.toNat

/-- READ_ROSTER's data: the list in ascending order (R114). -/
def rosterData (st : Store) : List Byte := beList (be 1) ((upTo 14).filter st.roster.contains)

/-- READ_SEAL's data (R191). The lock flag's byte is 1 for locked and 0 for unlocked, by the model's choice (log entry
92). -/
def sealData (st : Store) : List Byte :=
  beBool st.sealedCrc.isSome ++ beOpt (be 2) st.sealedCrc ++ beBool st.mismatch ++
  beOpt (be 2) st.lastFailing ++ beBool st.locked ++ be 4 st.passes.toNat ++ be 4 st.mismatches.toNat

/-! ## Tempo (R38, R58, R59) -/

/-- READ_TEMPO's data (R59). -/
def tempoData (t : Tmu) : List Byte :=
  be 1 t.tempo.code ++ beBool t.overridden ++ be 4 t.p16 ++ be 4 t.period ++ be 2 (centiBpm t.period) ++
  be 4 t.pmin ++ be 4 t.pmax ++ beOpt (be 4) t.waitingLink ++ be 1 (podiumCode t.active) ++
  beOpt (fun p => be 1 1 ++ be 1 (podiumCode p)) t.handover ++ beOpt beTime t.nextBeat ++
  be 4 t.beatIndex.toNat ++ beInt 4 t.correction ++ be 1 t.misses ++ be 1 t.reacquire ++ be 1 t.outliers ++
  be 2 t.extras.toNat ++ be 2 t.missed.toNat ++ be 2 t.splits.toNat ++ be 2 t.outlierTotal.toNat ++
  be 2 t.reseeds.toNat ++ be 2 t.lineA.bounces.toNat ++ be 2 t.lineB.bounces.toNat

/-- READ_ESTIMATOR's data (R58). -/
def estimatorData (e : Estimator) : List Byte :=
  be 1 e.depth ++ be 1 e.window ++ be 1 e.reseed ++ be 1 e.gain ++ be 1 e.cut ++ be 4 e.debounce

/-- A capture log entry (R37). An interval above 4 bytes, which a long FLYWHEEL can leave, is sent modulo 2^32, by the
model's choice (log entry 95). -/
def beLogEntry (e : LogEntry) : List Byte :=
  beTime e.stamp ++ be 1 e.disposition.code ++ beOpt (be 4) e.interval ++ beOpt (beInt 4) e.gridError

/-- READ_CAPTURE_LOG's data, oldest first (R38). -/
def captureData (l : CaptureLine) : List Byte := beList beLogEntry l.log ++ be 2 l.bounces.toNat

/-! ## Dispatch and bus (R101, R123) -/

/-- A POSITION entry's land position (R79). -/
def beLandPlace (p : LandPlace) : List Byte :=
  be 1 p.song ++ be 2 p.bar ++ be 1 p.beat ++ be 1 p.segment ++ be 1 p.pass

/-- A dispatch entry's fields in the order of R79. -/
def beEntry (e : Entry) : List Byte :=
  be 1 e.station ++ be 1 e.layer ++ be 2 e.patch ++ be 1 e.origin.code ++ be 1 e.form.code ++
  beOpt beLandPlace e.landPlace ++ beTime e.landTime ++ be 1 e.state.code ++ be 1 e.resends ++
  beBool e.late ++ beBool e.cancelPending ++ be 1 e.cancelResends ++ be 4 e.seq.toNat

/-- A station's closure counters (R100). -/
def beClosures (c : Closures) : List Byte :=
  be 4 c.created.toNat ++ be 4 c.applied.toNat ++ be 4 c.failed.toNat ++ be 4 c.superseded.toNat ++
  be 4 c.discarded.toNat ++ be 4 c.refused.toNat ++ be 4 c.late.toNat ++ be 4 c.stray.toNat

/-- READ_DISPATCH's data (R101). -/
def dispatchData (st : Nat) (s : State) : List Byte :=
  beList beEntry (s.queue st) ++ beClosures (nth1 s.pdu.closures st) ++ be 1 s.pdu.outstanding ++
  be 1 s.pdu.resendLimit

/-- READ_STATION's data (R113, R123). A current patch that is unknown is sent as an absent optional field, by the
model's choice (log entry 73). -/
def stationData (st : Nat) (s : State) : List Byte :=
  let r := s.station st
  be 1 r.state.code ++ beOpt (beInt 4) r.offset ++ be 4 r.delay ++ be 4 r.lead ++
  r.patches.flatMap (beOpt (be 2)) ++ be 1 r.streak ++ be 1 r.goodProbes ++ beOpt beTime r.nextProbe ++
  beOpt beTime r.nextPoll ++ be 1 r.lossCounter ++ beBool r.starved ++ be 4 r.lossTotal.toNat ++
  beBool (s.store.roster.contains st) ++ be 4 r.framesSent.toNat ++ be 2 r.noReplies.toNat ++
  be 2 r.lateReplies.toNat ++ be 4 r.goodTotal.toNat ++ be 2 r.discarded.toNat ++
  be 4 r.reportsTaken.toNat ++ be 2 r.refusedReports.toNat ++ be 2 r.cuts.toNat

/-- READ_BUS's data (R123). -/
def busData (b : Pbc) : List Byte :=
  be 2 b.busErrors.toNat ++ be 2 b.unlistedJoins.toNat ++
  beList (fun r : Nat × Report => be 1 (reportCode r.2) ++ be 1 r.1) b.reports ++ be 1 b.probeDepth

/-! ## Lanes (R137) -/

/-- A scheduled click (R133). -/
def beClick (c : Click) : List Byte :=
  beTime c.time ++ be 1 (if c.beat then 0 else 1) ++ be 1 c.accent ++ be 1 c.level

/-- A lane base record in a response: the follow feed, which may be none, is an optional field (R124, R187). -/
def beLaneBase (b : LaneBase) : List Byte :=
  be 1 b.subdivision ++ be 4 b.base ++ beOpt (be 1) b.follow ++ be 1 b.weak ++ be 1 b.normal ++ be 1 b.accent

/-- READ_LANE's data (R137). The burst is one presence byte before its level, accent level and end time (log entry
80). -/
def laneData (n : Nat) (s : State) : List Byte :=
  let l := s.lane n
  be 1 n ++ beLaneBase (s.laneBase n) ++ beBool l.muted ++ be 1 l.source.code ++ beInt 4 l.trim ++
  beOpt (be 1) l.override ++ be 4 l.offset ++ beBool l.clamped ++ be 1 (patternInUse s n s.scu.position) ++
  beList beClick l.schedule ++
  beOpt (fun b : Burst => be 1 b.level ++ be 1 b.accent ++ beTime b.endTime) l.burst ++
  be 4 l.sounded.toNat ++ be 2 l.dropped.toNat ++ be 2 l.clamps.toNat

/-- READ_LANES's data (R137). -/
def lanesData (s : State) : List Byte :=
  (upTo 16).flatMap fun n =>
    let l := s.lane n
    beBool l.muted ++ be 1 l.source.code ++ beInt 4 l.trim ++ be 4 l.offset ++ beBool l.clamped

/-! ## Video (R152) -/

/-- A camera record (R138). -/
def beCamera (c : Camera) : List Byte :=
  be 1 (if c.live then 0 else 1) ++ beBool c.seen ++ beOpt beTime c.lastStart ++ beOpt (be 4) c.period ++
  beOpt beTime c.deadline

/-- A feed record and its feed base record (R140). The overlay mask takes 2 bytes, as in SET_FEED, by the model's choice
(log entry 85). -/
def beFeed (f : Feed) (b : FeedBase) : List Byte :=
  be 1 f.source.code ++ beOpt (fun x => be 1 (FeedSource.code x)) f.pending ++ be 1 f.showing.code ++
  beOpt (fun p : Picture => be 1 (podiumCode p.cam) ++ beTime p.time) f.picture ++ be 2 f.overlay.toNat ++
  be 4 f.latency ++ beBool f.measure ++ beOpt beTime f.mark ++ be 1 f.phase ++ beBool f.high ++
  beBool f.loaded ++ b.bytes

/-- A camera's counters (R152). -/
def beCameraCounts (c : Camera) : List Byte :=
  be 4 c.starts.toNat ++ be 2 c.glitches.toNat ++ be 2 c.cuts.toNat

/-- A feed's counters (R152). -/
def beFeedCounts (f : Feed) : List Byte :=
  be 4 f.switches.toNat ++ be 4 f.marks.toNat ++ be 2 f.good.toNat ++ be 2 f.discarded.toNat ++
  be 2 f.missed.toNat

/-- READ_VIDEO's data (R152). Each feed record is followed by its feed base record (log entry 67), and the STOP banner
is one presence byte before its stop id and origin (log entry 78), both by the model's choice. -/
def videoData (s : State) : List Byte :=
  beCamera s.vu.camA ++ beCamera s.vu.camB ++
  (upTo 6).flatMap (fun n => beFeed (s.feed n) (s.feedBase n)) ++ beOpt (be 2) s.vu.standby ++
  beOpt (fun b : Nat × Origin => be 1 b.1 ++ be 1 b.2.code) s.vu.banner ++ beList bePanic s.vu.panic ++
  beCameraCounts s.vu.camA ++ beCameraCounts s.vu.camB ++ (upTo 6).flatMap (fun n => beFeedCounts (s.feed n)) ++
  be 4 s.vu.panicsTaken.toNat ++ be 2 s.vu.replaced.toNat ++ be 2 s.vu.badPanic.toNat

/-! ## Links (R171) -/

/-- One link's part of READ_STATUS (R171). Its masks stand in the order E, W, notice enable, by the model's choice
(log entry 79). -/
def beLink (r : LinkRecord) : List Byte :=
  be 2 r.captured.toNat ++ be 2 r.eMask.toNat ++ be 2 r.wMask.toNat ++ be 2 r.noticeMask.toNat ++
  beBool r.forceE ++ beBool r.forceW ++ be 1 r.responses.length ++ be 1 r.notices.length ++
  be 4 r.requests.toNat ++ be 2 r.badFrames.toNat ++ be 2 r.refusals.toNat ++ be 2 r.overruns.toNat ++
  be 2 r.breaks.toNat ++ be 4 r.hunted.toNat ++ be 4 r.noticesSent.toNat ++ be 4 r.noticesReplaced.toNat ++
  be 2 r.noticesLost.toNat

/-- READ_STATUS's data (R171), the links in the order of R171's first sentence (log entry 79). -/
def statusData (k : Lku) : List Byte :=
  be 2 k.current.toNat ++ be 2 k.latched.toNat ++ beLink k.stage ++ beLink k.podium ++ beLink k.rig

end Sys2Proof.Machine
end

