-- ==== Sys2Proof/Machine/Patch.lean ====
section
/-! DEFINITION. The meanings of the Patch Dispatch Unit's commands: SET_DISPATCH, READ_DISPATCH, the sending of
an entry, the replies to it, the reports and deadlines that close it, and the hand-overs the PDU takes (R79 to
R101). -/

namespace Sys2Proof.Machine

/-- SET_DISPATCH: resend limit (R89). -/
def setDispatchOwner (n : Nat) (s : State) : Answer :=
  if within 0 3 n then plain (s.onPdu fun d => { d with resendLimit := n }, .ok) else plain (s, .range)

/-- READ_DISPATCH (R101). -/
def readDispatchOwner (st : Nat) (s : State) : Answer :=
  if within 1 14 st then readOk (dispatchData st s) s else readKeyed .range [] s

def execSetDispatch (l : Link) (p : List Byte) (s : State) : Host.Outcome State Fault Refusal :=
  live (request l 33 rigOnly oneByte setDispatchOwner p) s

def execReadDispatch (l : Link) (p : List Byte) (s : State) : Host.Outcome State Fault Refusal :=
  live (request l 61 anyLink oneByte readDispatchOwner p) s

/-! ## Hand-overs -/

/-- The PDU takes the hand-over at its head when it is of a kind (R158). -/
def takePduHead (kind : HandOver → Bool) (s : State) : State :=
  match s.pdu.hands with
  | [] => s
  | h :: rest => if kind h then takePdu (s.onPdu fun d => { d with hands := rest }) h else s

/-- The PDU takes a delivered grid beat and recomputes its lands (R84, R85). -/
def execLandRecompute (s : State) : Host.Outcome State Fault Refusal := live (takePduHead HandOver.isBeat) s

/-- The PDU takes the entry to HOLD (R96). -/
def execPduHoldEntry (s : State) : Host.Outcome State Fault Refusal := live (takePduHead HandOver.isHold) s

/-- The PDU takes the show reset (R99, R194). -/
def execPduShowReset (s : State) : Host.Outcome State Fault Refusal := live (takePduHead HandOver.isReset) s

/-! ## Sending -/

/-- An entry of a station that is sendable, or due for resend, is offered; on a free bus the PBC begins
(R86, R108). -/
def offerStep (st : Nat) (rivals : List Nat) (s : State) : State :=
  if (s.offer st).isSome then beginOnFreeBus rivals s else s

def execEntrySendable (st : Nat) (rivals : List Nat) (s : State) : Host.Outcome State Fault Refusal :=
  live (offerStep st rivals) s

/-! ## Replies (R89, R97, R105, R107) -/

/-- The effect of a reply of the right kind that the exchange takes; the loss counter takes its tally (R105,
R107). -/
def replied (st tally : Nat) (s : State) : State := endExchange (tallyReply st tally s)

/-- An ACK from a station: the reply to an APPLY or CANCEL, a frame that does not fit, or a late reply
(R89, R97, R105). -/
def ackStep (st tally : Nat) (s : State) : State :=
  match replyFate s st OutFrame.takesAck with
  | .reply x =>
    match x.frame with
    | .cancel .. => cancelAcked x (replied st tally s)
    | _ => applyAcked x (replied st tally s)
  | .unfit => discardFrame s
  | .late => lateReply st s
  | .cannotBe => s

/-- A NAK from a station (R89, R97, R105). -/
def nakStep (st tally : Nat) (s : State) : State :=
  match replyFate s st OutFrame.takesAck with
  | .reply x =>
    match x.frame with
    | .cancel .. => replied st tally s
    | _ => applyUnanswered x (replied st tally s)
  | .unfit => discardFrame s
  | .late => lateReply st s
  | .cannotBe => s

def execAck (st tally : Nat) (s : State) : Host.Outcome State Fault Refusal := live (ackStep st tally) s

def execNak (st tally : Nat) (s : State) : Host.Outcome State Fault Refusal := live (nakStep st tally) s

/-! ## Reports and deadlines (R91 to R95) -/

/-- The open entry of a station's layer that carries a patch (R91, R93). -/
def State.openEntry (s : State) (st layer patch : Nat) : Option Entry :=
  (s.queue st).find? fun e => e.isOpen && e.layer == layer && e.patch == patch

/-- A report that matches no open entry is stray: counted, told, and the current patch becomes what it says
(R95). The notice's late flag is no (log entry 55), and a patch above 4095 is taken as it stands (R112; log entry
59). -/
def stray (st layer patch : Nat) (current : Option Nat) (s : State) : State :=
  let s := s.onClosures st fun c => { c with stray := c.stray + 1 }
  raiseNotice (.patch st layer patch .stray none false) (setPatch st layer current s)

/-- The PDU takes a DONE (R91, R95). -/
def takeDone (st layer patch : Nat) (s : State) : State :=
  match s.openEntry st layer patch with
  | some e => closeApplied e s
  | none => stray st layer patch (some patch) s

/-- The PDU takes a FAULT (R93, R95). -/
def takeFault (st layer patch : Nat) (s : State) : State :=
  match s.openEntry st layer patch with
  | some e => closeFailed e (setPatch st layer none s)
  | none => stray st layer patch none s

/-- The report at the head of the queue leaves it (R112). -/
def dropReport (s : State) : State := s.onPbc fun b => { b with reports := b.reports.tail }

/-- The head of the report queue is taken by the PDU when it is a DONE (R91, R112). -/
def doneStep (s : State) : State :=
  match s.pbc.reports.head? with
  | some (st, .done layer patch) => takeDone st layer patch (dropReport s)
  | _ => s

/-- The head of the report queue is taken by the PDU when it is a FAULT (R93, R112). -/
def faultStep (s : State) : State :=
  match s.pbc.reports.head? with
  | some (st, .fault layer patch) => takeFault st layer patch (dropReport s)
  | _ => s

def execDoneReport (s : State) : Host.Outcome State Fault Refusal := live doneStep s

def execFaultReport (s : State) : Host.Outcome State Fault Refusal := live faultStep s

/-- The first open entry of a station whose done deadline has been reached closes as failed (R92): of several reached
together, the first in queue order, by the model's choice (log entry 82). -/
def deadlineStep (st : Nat) (s : State) : State :=
  match (s.queue st).find? fun e => e.doneDue s with
  | some e => closeFailed e s
  | none => s

def execDoneDeadline (st : Nat) (s : State) : Host.Outcome State Fault Refusal := live (deadlineStep st) s

end Sys2Proof.Machine
end

