-- ==== Sys2Proof/Machine/Bus.lean ====
section
/-! DEFINITION. The meanings of the Pit Bus Controller's commands: the roster, SET_PROBE and the bus reads, the
frames it begins, and the frames and reports it takes (R102 to R123). -/

namespace Sys2Proof.Machine

/-- WRITE_ROSTER (R114). -/
def writeRosterOwner (r : List Nat) (s : State) : Answer :=
  plain (writeStep (fun _ => failIf (!(rosterValid r)) .range) (rosterWritten r) s)

/-- READ_ROSTER (R114). -/
def readRosterOwner (_ : Unit) (s : State) : Answer := readOk (rosterData s.store) s

/-- SET_PROBE: probe filter depth (R122). -/
def setProbeOwner (n : Nat) (s : State) : Answer :=
  if within 0 6 n then plain (s.onPbc fun b => { b with probeDepth := n }, .ok) else plain (s, .range)

/-- READ_STATION (R123). -/
def readStationOwner (st : Nat) (s : State) : Answer :=
  if within 1 14 st then readOk (stationData st s) s else readKeyed .range [] s

/-- READ_BUS (R123). -/
def readBusOwner (_ : Unit) (s : State) : Answer := readOk (busData s.pbc) s

def execWriteRoster (l : Link) (p : List Byte) (s : State) : Host.Outcome State Fault Refusal :=
  live (request l 21 rigOnly rosterOperand writeRosterOwner p) s

def execReadRoster (l : Link) (p : List Byte) (s : State) : Host.Outcome State Fault Refusal :=
  live (request l 55 anyLink noOperand readRosterOwner p) s

def execSetProbe (l : Link) (p : List Byte) (s : State) : Host.Outcome State Fault Refusal :=
  live (request l 34 rigOnly oneByte setProbeOwner p) s

def execReadStation (l : Link) (p : List Byte) (s : State) : Host.Outcome State Fault Refusal :=
  live (request l 62 anyLink oneByte readStationOwner p) s

def execReadBus (l : Link) (p : List Byte) (s : State) : Host.Outcome State Fault Refusal :=
  live (request l 63 anyLink noOperand readBusOwner p) s

/-! ## Beginning frames (R103, R108, R109, R118, R119) -/

/-- The broadcast poll, the first frame after start-up, is sent on the free bus (R109). -/
def broadcastStep (s : State) : State :=
  if s.pbc.broadcastDue && busIsFree s then sendFrame ⟨0, .broadcastPoll, none⟩ s else s

/-- A station's probe is due and the bus free (R108, R119). -/
def probeDueStep (st : Nat) (rivals : List Nat) (s : State) : State :=
  if probeIsDue s st then beginOnFreeBus rivals s else s

/-- A CUT station's recovery poll is due and the bus free (R108, R118). -/
def recoveryDueStep (st : Nat) (rivals : List Nat) (s : State) : State :=
  if recoveryIsDue s st then beginOnFreeBus rivals s else s

def execBroadcastPoll (s : State) : Host.Outcome State Fault Refusal := live broadcastStep s

def execBusFree (rivals : List Nat) (s : State) : Host.Outcome State Fault Refusal :=
  live (beginOnFreeBus rivals) s

def execProbeDue (st : Nat) (rivals : List Nat) (s : State) : Host.Outcome State Fault Refusal :=
  live (probeDueStep st rivals) s

def execRecoveryPollDue (st : Nat) (rivals : List Nat) (s : State) : Host.Outcome State Fault Refusal :=
  live (recoveryDueStep st rivals) s

/-! ## Frames from stations (R104 to R107, R110, R111) -/

/-- A frame that takes PROBE_REPLY (R105). -/
def OutFrame.takesProbeReply : OutFrame → Bool
  | .probe => true
  | _ => false

/-- A PROBE_REPLY from a station (R105, R116, R120, R121). -/
def probeReplyStep (st tally t2 t3 t4 : Nat) (s : State) : State :=
  match replyFate s st OutFrame.takesProbeReply with
  | .reply x => takeSample st x.sendTime t2 t3 t4 (stationSuccess st (replied st tally s))
  | .unfit => discardFrame s
  | .late => lateReply st s
  | .cannotBe => s

/-- What a POLL_REPLY tells of its station: a CUT station polled for recovery enters JOINING, any other reply
is a success (R110, R116, R118). -/
def pollAnswered (st : Nat) (x : Exchange) (s : State) : State :=
  if x.frame = .poll true ∧ (s.station st).state = .cut then enterJoining st none .poll s
  else stationSuccess st s

/-- A POLL_REPLY from a station, with the report it carries (R105, R107, R110, R111, R118). -/
def pollReplyStep (st tally : Nat) (report : Option Report) (s : State) : State :=
  match replyFate s st OutFrame.takesPollReply with
  | .reply x =>
    let s := pollAnswered st x (endExchange (tallyWon st tally s))
    match report with
    | none => s
    | some r => intakeReport st r s
  | .unfit => discardFrame s
  | .late => lateReply st s
  | .cannotBe => s

/-- A lost window that has reached its limit. -/
def lostDue (s : State) : Option Exchange := s.pbc.lostWindows.find? fun x => reached x.limit s

/-- A reply window has reached its limit without a reply: the one that a discarded frame ended early, or the
open one (R104). -/
def noReplyStep (s : State) : State :=
  match lostDue s with
  | some x => tellNoReply x (s.onPbc fun b => { b with lostWindows := b.lostWindows.erase x })
  | none =>
    match s.pbc.exchange with
    | none => s
    | some x => if reached x.limit s then tellNoReply x (endExchange s) else s

/-- An attention from a station: its report is taken in, or, in a reply window, the frame is discarded (R104,
R105, R107, R111); while the bus carries another station's header there is none. -/
def attentionStep (st tally : Nat) (r : Report) (s : State) : State :=
  if s.pbc.exchange.isSome ∨ isStation st = false then discardFrame s
  else if s.busHeldByOther st then s
  else intakeReport st r (tallyWon st tally s)

def execProbeReply (st tally t2 t3 t4 : Nat) (s : State) : Host.Outcome State Fault Refusal :=
  live (probeReplyStep st tally t2 t3 t4) s

def execPollReply (st tally : Nat) (report : Option Report) (s : State) : Host.Outcome State Fault Refusal :=
  live (pollReplyStep st tally report) s

def execNoReply (s : State) : Host.Outcome State Fault Refusal := live noReplyStep s

def execAttention (st tally : Nat) (r : Report) (s : State) : Host.Outcome State Fault Refusal :=
  live (attentionStep st tally r) s

/-- A frame whose parity, CRC or layout fails (R106, R185). -/
def execDamagedFrame (s : State) : Host.Outcome State Fault Refusal := live discardFrame s

/-- A frame that does not fit the open window, or an outbound kind or address outside one (R105). -/
def execUnexpectedFrame (s : State) : Host.Outcome State Fault Refusal := live discardFrame s

/-! ## JOIN (R112, R115) -/

/-- The PBC takes a JOIN (R112, R115). In HOLD the notices of the entries that it discards are raised before the
STATION notice of the entry to JOINING, by the model's choice (log entry 75). -/
def takeJoin (st lead : Nat) (s : State) : State :=
  if s.store.roster.contains st = false then raiseUnlisted st s
  else
    match (s.station st).state with
    | .ready | .suspect => enterJoining st (some lead) .join (rejoinQueue st s)
    | _ => enterJoining st (some lead) .join s

/-- The head of the report queue is taken by the PBC when it is a JOIN (R112, R115). -/
def joinStep (s : State) : State :=
  match s.pbc.reports.head? with
  | some (st, .join lead) => takeJoin st lead (dropReport s)
  | _ => s

def execJoinReport (s : State) : Host.Outcome State Fault Refusal := live joinStep s

end Sys2Proof.Machine
end

