-- ==== Sys2Proof/Machine/Click.lean ====
section
/-! DEFINITION. The meanings of the Click Unit's commands: the lane base record, SET_LANE, the lane reads, the
scheduling and sounding of clicks, and the entry to HOLD (R124 to R137). -/

namespace Sys2Proof.Machine

/-- WRITE_LANE_BASE (R125). -/
def writeLaneBaseOwner (a : Nat × LaneBase) (s : State) : Answer :=
  plain (writeStep (fun _ => failIf (!(within 1 16 a.1 && a.2.valid)) .range) (laneBaseWritten a.1 a.2) s)

/-- READ_LANE_BASE (R125). -/
def readLaneBaseOwner (n : Nat) (s : State) : Answer :=
  if within 1 16 n then readOk (beLaneBase (s.laneBase n)) s else readKeyed .range [] s

/-- SET_LANE on one lane (R126). -/
def setOneLane (mute : Option Nat) (trim : Option Int) (s : State) (n : Nat) : State :=
  let s :=
    match mute with
    | none => s
    | some m => s.onLane n (Lane.setMute (m == 1) .live)
  match trim with
  | none => s
  | some t => recomputeOffset n (s.onLane n fun l => { l with trim := t })

/-- What SET_LANE carries is in range (R126). -/
def setLaneValid (lanes : Mask) (mute : Option Nat) (trim : Option Int) : Bool :=
  maskOk 1 16 lanes && (mute.isSome || trim.isSome) && mute.all (within 0 1) &&
  trim.all fun t => decide (-10000 ≤ t) && decide (t ≤ 10000)

/-- SET_LANE: lane set, mute setting, trim (R126). -/
def setLaneOwner (a : Mask × Option Nat × Option Int) (s : State) : Answer :=
  if setLaneValid a.1 a.2.1 a.2.2 then
    let s := (maskNumbers a.1).foldl (setOneLane a.2.1 a.2.2) s
    plain (s, if (maskNumbers a.1).any fun n => (s.lane n).clamped then .clamped else .ok)
  else plain (s, .range)

/-- READ_LANE (R137). -/
def readLaneOwner (n : Nat) (s : State) : Answer :=
  if within 1 16 n then readOk (laneData n s) s else readKeyed .range [] s

/-- READ_LANES (R137). -/
def readLanesOwner (_ : Unit) (s : State) : Answer := readOk (lanesData s) s

def execWriteLaneBase (l : Link) (p : List Byte) (s : State) : Host.Outcome State Fault Refusal :=
  live (request l 22 rigOnly laneBaseOperands writeLaneBaseOwner p) s

def execReadLaneBase (l : Link) (p : List Byte) (s : State) : Host.Outcome State Fault Refusal :=
  live (request l 56 anyLink oneByte readLaneBaseOwner p) s

def execSetLane (l : Link) (p : List Byte) (s : State) : Host.Outcome State Fault Refusal :=
  live (request l 36 anyLink laneOperands setLaneOwner p) s

def execReadLane (l : Link) (p : List Byte) (s : State) : Host.Outcome State Fault Refusal :=
  live (request l 64 anyLink oneByte readLaneOwner p) s

def execReadLanes (l : Link) (p : List Byte) (s : State) : Host.Outcome State Fault Refusal :=
  live (request l 65 anyLink noOperand readLanesOwner p) s

/-- The CLU takes the hand-over at its head when it is of a kind (R158). -/
def takeCluHead (kind : HandOver → Bool) (s : State) : State :=
  match s.clu.hands with
  | [] => s
  | h :: rest => if kind h then takeClu (s.onClu fun c => { c with hands := rest }) h else s

/-- The CLU takes a delivered grid beat (R130 to R135). -/
def execClickSchedule (s : State) : Host.Outcome State Fault Refusal := live (takeCluHead HandOver.isBeat) s

/-- The CLU takes the entry to HOLD (R136). -/
def execCluHoldEntry (s : State) : Host.Outcome State Fault Refusal := live (takeCluHead HandOver.isHold) s

/-- The first click of a lane's schedule sounds when its time is reached (R134). -/
def soundStep (n : Nat) (s : State) : State :=
  match (s.lane n).schedule with
  | [] => s
  | c :: rest =>
    if reached c.time s then s.onLane n fun l => Lane.sound s.now { l with schedule := rest } c else s

/-- A lane's burst reaches its end time (R134). -/
def burstStep (n : Nat) (s : State) : State :=
  match (s.lane n).burst with
  | none => s
  | some b => if reached b.endTime s then s.onLane n fun l => { l with burst := none } else s

def execClickSound (n : Nat) (s : State) : Host.Outcome State Fault Refusal := live (soundStep n) s

def execBurstEnd (n : Nat) (s : State) : Host.Outcome State Fault Refusal := live (burstStep n) s

end Sys2Proof.Machine
end

