-- ==== Sys2Proof/Machine/Cues.lean ====
section
/-! DEFINITION. The meanings of the Cue Engine's commands: GO, STANDBY, the cue writes and reads, and the
hand-overs the CUE takes (R60 to R78). -/

namespace Sys2Proof.Machine

/-- GO with an optional cue id (R65). -/
def goOwner (id : Option Nat) (s : State) : Answer :=
  match s.scu.showState with
  | .armed | .countIn | .running =>
    if id.all (within 1 9999) then
      match s.goTarget id with
      | some e => plain (goRun e s, .ok)
      | none => plain (s, .notFound)
    else plain (s, .range)
  | _ => plain (s, .refusedState)

/-- STANDBY with an optional cue id (R67). -/
def standbyOwner (id : Option Nat) (s : State) : Answer :=
  match id with
  | none => plain (setStandby none s, .ok)
  | some i =>
    if within 1 9999 i then
      if (s.store.cue i).isSome then plain (setStandby (some i) s, .ok) else plain (s, .notFound)
    else plain (s, .range)

/-- WRITE_CUE (R62). -/
def writeCueOwner (c : Bool × Cue) (s : State) : Answer :=
  plain (writeStep (writeCueCheck c.1 c.2) (cueWritten c.2) s)

/-- DELETE_CUE (R63). -/
def deleteCueOwner (id : Nat) (s : State) : Answer := plain (writeStep (deleteCueCheck id) (cueDeleted id) s)

/-- READ_CUE (R63). -/
def readCueOwner (id : Nat) (s : State) : Answer :=
  if within 1 9999 id then
    match s.store.cue id with
    | some e => readOk (cueData e) s
    | none => readKeyed .notFound [] s
  else readKeyed .range [] s

/-- READ_CUES (R78). -/
def readCuesOwner (_ : Unit) (s : State) : Answer := readOk (cuesData s) s

def execGo (l : Link) (p : List Byte) (s : State) : Host.Outcome State Fault Refusal :=
  live (request l 1 stageOnly optCueId goOwner p) s

def execStandby (l : Link) (p : List Byte) (s : State) : Host.Outcome State Fault Refusal :=
  live (request l 2 stageOnly optCueId standbyOwner p) s

def execWriteCue (l : Link) (p : List Byte) (s : State) : Host.Outcome State Fault Refusal :=
  live (request l 19 rigOnly cueOperand writeCueOwner p) s

def execDeleteCue (l : Link) (p : List Byte) (s : State) : Host.Outcome State Fault Refusal :=
  live (request l 20 rigOnly twoBytes deleteCueOwner p) s

def execReadCue (l : Link) (p : List Byte) (s : State) : Host.Outcome State Fault Refusal :=
  live (request l 53 anyLink twoBytes readCueOwner p) s

def execReadCues (l : Link) (p : List Byte) (s : State) : Host.Outcome State Fault Refusal :=
  live (request l 54 anyLink noOperand readCuesOwner p) s

/-- The CUE takes the hand-over at its head when it is of a kind (R158). -/
def takeCueHead (kind : HandOver → Bool) (s : State) : State :=
  match s.cue.hands with
  | [] => s
  | h :: rest => if kind h then takeCue (s.onCue fun q => { q with hands := rest }) h else s

/-- The CUE takes a delivered grid beat (R72, R73). -/
def execPositionalFiring (s : State) : Host.Outcome State Fault Refusal := live (takeCueHead HandOver.isBeat) s

/-- The CUE takes the entry to HOLD (R77, R158). -/
def execCueHoldEntry (s : State) : Host.Outcome State Fault Refusal := live (takeCueHead HandOver.isHold) s

/-- The CUE takes the show reset (R60, R64, R67, R78, R194). -/
def execCueShowReset (s : State) : Host.Outcome State Fault Refusal := live (takeCueHead HandOver.isReset) s

end Sys2Proof.Machine
end

