-- ==== Sys2Proof/Machine/Integrity.lean ====
section
/-! DEFINITION. The meanings of the store's own commands: SEAL, LOCK, UNLOCK, READ_SEAL, the background pass and
the storage fault (R188 to R192). -/

namespace Sys2Proof.Machine

/-- SEAL: expected CRC-16; every answer carries the computed CRC (R190). -/
def sealOwner (expected : Nat) (s : State) : Answer :=
  let (s, r, crc) := sealStep expected s
  (s, r, be 2 crc)

/-- LOCK (R192). -/
def lockOwner (_ : Unit) (s : State) : Answer := plain (s.onStore fun st => { st with locked := true }, .ok)

/-- UNLOCK (R192). -/
def unlockOwner (_ : Unit) (s : State) : Answer :=
  if s.scu.showState = .dark ∨ s.scu.showState = .hold then
    plain (s.onStore fun st => { st with locked := false }, .ok)
  else plain (s, .refusedState)

/-- READ_SEAL (R191). -/
def readSealOwner (_ : Unit) (s : State) : Answer := readOk (sealData s.store) s

def execSeal (l : Link) (p : List Byte) (s : State) : Host.Outcome State Fault Refusal :=
  live (request l 24 rigOnly twoBytes sealOwner p) s

def execLock (l : Link) (p : List Byte) (s : State) : Host.Outcome State Fault Refusal :=
  live (request l 25 rigOnly noOperand lockOwner p) s

def execUnlock (l : Link) (p : List Byte) (s : State) : Host.Outcome State Fault Refusal :=
  live (request l 26 rigOnly noOperand unlockOwner p) s

def execReadSeal (l : Link) (p : List Byte) (s : State) : Host.Outcome State Fault Refusal :=
  live (request l 68 anyLink noOperand readSealOwner p) s

/-- A background pass ends (R191). -/
def execBackgroundPassEnd (s : State) : Host.Outcome State Fault Refusal := live endPass s

/-- A stored byte changes that no request changed (R191). -/
def execStorageFault (part : StorePart) (offset : Nat) (value : Byte) (s : State) :
    Host.Outcome State Fault Refusal := live (strike part offset value) s

end Sys2Proof.Machine
end

