-- ==== Sys2Proof/Machine/Links.lean ====
section
/-! DEFINITION. The meanings of the Link Unit's commands: the status requests, the frames that are no whole
request, the breaks and bytes of the lines, and the sending of responses and notices (R171 to R183). -/

namespace Sys2Proof.Machine

/-- CLEAR_STATUS (R180). -/
def clearStatusOwner (_ : Unit) (s : State) : Answer := plain (clearLatched s, .ok)

/-- SET_MASKS on its own link (R181). -/
def setMasksOwner (l : Link) (a : Option Mask × Option Mask × Option Mask) (s : State) : Answer :=
  plain (setMasksStep l a.1 a.2.1 a.2.2 s)

/-- FORCE_E on its own link (R181). -/
def forceEOwner (l : Link) (on : Nat) (s : State) : Answer :=
  if within 0 1 on then plain (s.onLink l fun r => { r with forceE := on == 1 }, .ok) else plain (s, .range)

/-- FORCE_W on its own link (R181). -/
def forceWOwner (l : Link) (on : Nat) (s : State) : Answer :=
  if within 0 1 on then plain (s.onLink l fun r => { r with forceW := on == 1 }, .ok) else plain (s, .range)

/-- READ_STATUS (R171). -/
def readStatusOwner (_ : Unit) (s : State) : Answer := readOk (statusData s.lku) s

def execClearStatus (l : Link) (p : List Byte) (s : State) : Host.Outcome State Fault Refusal :=
  live (request l 40 anyLink noOperand clearStatusOwner p) s

def execSetMasks (l : Link) (p : List Byte) (s : State) : Host.Outcome State Fault Refusal :=
  live (request l 41 anyLink maskOperands (setMasksOwner l) p) s

def execForceE (l : Link) (p : List Byte) (s : State) : Host.Outcome State Fault Refusal :=
  live (request l 42 anyLink oneByte (forceEOwner l) p) s

def execForceW (l : Link) (p : List Byte) (s : State) : Host.Outcome State Fault Refusal :=
  live (request l 43 anyLink oneByte (forceWOwner l) p) s

def execReadStatus (l : Link) (p : List Byte) (s : State) : Host.Outcome State Fault Refusal :=
  live (request l 67 anyLink noOperand readStatusOwner p) s

/-! ## Frames (R172 to R176) -/

/-- The last frame of a request whose code names none (R176 step 2). -/
def unknownStep (l : Link) (code : Byte) (p : List Byte) (s : State) : State :=
  if requestCodes.contains code.toNat then s
  else
    match arrive l code false p s with
    | (s, none) => s
    | (s, some _) => judgeUnknown l code s

/-- A good frame with the continuation flag set (R175). -/
def runStep (l : Link) (code : Byte) (p : List Byte) (s : State) : State := (arrive l code true p s).1

/-- More than 100 µs within a frame (R173). -/
def gapStep (l : Link) (s : State) : State := if (s.lku.link l).recv = .frame then judgeBad l s else s

/-- A byte taken while the link hunts for SYNC (R172). -/
def huntStep (l : Link) (b : Byte) (s : State) : State :=
  if (s.lku.link l).recv = .hunt then
    if b = syncByte then s.onLink l fun r => { r with recv := .frame }
    else s.onLink l fun r => { r with hunted := r.hunted + 1 }
  else s

/-- A good frame of the code being discarded (R175). -/
def discardStep (l : Link) (code : Byte) (last : Bool) (s : State) : State :=
  if (s.lku.link l).discarding = some code then (arrive l code (!last) [] s).1 else s

def execUnknownRequest (l : Link) (code : Byte) (p : List Byte) (s : State) :
    Host.Outcome State Fault Refusal := live (unknownStep l code p) s

def execRunFrame (l : Link) (code : Byte) (p : List Byte) (s : State) : Host.Outcome State Fault Refusal :=
  live (runStep l code p) s

/-- A frame received whole whose CRC, kind or length is bad (R173). -/
def execBadFrame (l : Link) (s : State) : Host.Outcome State Fault Refusal := live (judgeBad l) s

def execFrameGapTimeout (l : Link) (s : State) : Host.Outcome State Fault Refusal := live (gapStep l) s

/-- A frame with a framing error, the line high for 20 µs after it (R173). -/
def execFramingErrorJudge (l : Link) (s : State) : Host.Outcome State Fault Refusal := live (judgeBad l) s

/-- A break on a link's receive line (R174). -/
def execLinkBreak (l : Link) (s : State) : Host.Outcome State Fault Refusal := live (takeBreak l) s

def execByteInHunt (l : Link) (b : Byte) (s : State) : Host.Outcome State Fault Refusal := live (huntStep l b) s

def execDiscardingRunFrame (l : Link) (code : Byte) (last : Bool) (s : State) :
    Host.Outcome State Fault Refusal := live (discardStep l code last) s

/-! ## Sending (R172, R177, R183) -/

/-- The oldest response begins to be sent (R177). -/
def execResponseSend (l : Link) (s : State) : Host.Outcome State Fault Refusal := live (sendResponse l) s

/-- The head of the notice queue begins to be sent (R183). -/
def execNoticeSend (l : Link) (s : State) : Host.Outcome State Fault Refusal := live (sendNotice l) s

end Sys2Proof.Machine
end

