-- ==== Sys2Proof/Machine/Power.lean ====
section
/-! DEFINITION. The meanings of the start-up commands: power-on, the RESET pin, REBOOT and its effect, and the
last value of the show time base (R1, R177, R193). -/

namespace Sys2Proof.Machine

/-- REBOOT: answered OK; it takes effect when the response has been sent (R177). -/
def rebootOwner (_ : Unit) (s : State) : Answer := plain (s, .ok)

def execReboot (l : Link) (p : List Byte) (s : State) : Host.Outcome State Fault Refusal :=
  live (requestWith true l 28 rigOnly noOperand rebootOwner p) s

/-- Power comes up, the supply good (R193). -/
def execPowerOn (s : State) : Host.Outcome State Fault Refusal := .next (startUp s)

/-- The RESET pin is released (R193). -/
def execResetPin (s : State) : Host.Outcome State Fault Refusal := .next (startUp s)

/-- The last byte of a REBOOT response has been sent (R177, R193). -/
def execRebootTakesEffect (s : State) : Host.Outcome State Fault Refusal :=
  live (fun s => if rebootDue s then startUp s else s) s

/-- The RESET pin is low: the part is held in reset (R193; log entry 9). -/
def execHeldInReset (s : State) : Host.Outcome State Fault Refusal := .next { startUp s with inReset := true }

/-- The show time base reaches its last value (R1). -/
def execShowTimeBaseSaturates (s : State) : Host.Outcome State Fault Refusal := live (State.setNow timeMax) s

end Sys2Proof.Machine
end

