-- ==== Sys2Proof/Machine/Show.lean ====
section
/-! DEFINITION. The meanings of the show's own commands: ARM, COUNT, VAMP_EXIT, READ_SHOW and RESET_SHOW (R5
to R15, R18, R34, R170, R194). -/

namespace Sys2Proof.Machine

/-- ARM: song and optional bar (R5, R8). -/
def armOwner (a : Nat × Option Nat) (s : State) : Answer := plain (armStep a.1 a.2 s)

/-- COUNT: optional start time (R9 to R13). -/
def countOwner (start : Option Nat) (s : State) : Answer := plain (countStep start s)

/-- VAMP_EXIT of the Podium Link (R34). -/
def vampExitOwner (_ : Unit) (s : State) : Answer := plain (vampExitStep s)

/-- READ_SHOW (R18). -/
def readShowOwner (_ : Unit) (s : State) : Answer := readOk (showData s) s

/-- RESET_SHOW as refused by its owner (R194). -/
def resetShowOwner (_ : Unit) (s : State) : Answer := plain (s, .refusedState)

/-- A completed RESET_SHOW: taken in DARK and HOLD, where its response waits for the blocks (`resetAnswered`), and
judged like any request where it is refused, has no right to its link, or finds no room (R176, R194). -/
def judgeReset (l : Link) (p : List Byte) (s : State) : State :=
  if s.isFull l = false ∧ rigOnly l = true ∧ p = [] ∧ (s.scu.showState = .dark ∨ s.scu.showState = .hold) then
    resetShowTaken (s.onLink l fun r => { r with requests := r.requests + 1 })
  else judge l 27 rigOnly noOperand resetShowOwner false p s

def execArm (l : Link) (p : List Byte) (s : State) : Host.Outcome State Fault Refusal :=
  live (request l 4 stageOrPodium armOperands armOwner p) s

def execCount (l : Link) (p : List Byte) (s : State) : Host.Outcome State Fault Refusal :=
  live (request l 6 podiumOnly optTime countOwner p) s

def execVampExit (l : Link) (p : List Byte) (s : State) : Host.Outcome State Fault Refusal :=
  live (request l 8 podiumOnly noOperand vampExitOwner p) s

def execReadShow (l : Link) (p : List Byte) (s : State) : Host.Outcome State Fault Refusal :=
  live (request l 48 anyLink noOperand readShowOwner p) s

def execResetShow (l : Link) (p : List Byte) (s : State) : Host.Outcome State Fault Refusal :=
  live (completed l 27 p (judgeReset l)) s

end Sys2Proof.Machine
end

