-- ==== Sys2Proof/Machine/Stops.lean ====
section
/-! DEFINITION. The meanings of the stop's commands: STOP, RELEASE, RESTART_AT, READ_STOP and the stop lines
(R153 to R168). -/

namespace Sys2Proof.Machine

/-- The origin a STOP request has (R155); the Rig Link has no right to it. -/
def linkOrigin : Link → Origin
  | .stage => .stageLink
  | _ => .podiumLink

/-- STOP: the origin reaches the SCU; IGNORED when it is already in the stop set (R155, R156). -/
def stopOwner (l : Link) (_ : Unit) (s : State) : Answer :=
  let o := linkOrigin l
  plain (addOrigin o s, if s.scu.showState = .hold ∧ s.scu.stopSet.has o = true then .ignored else .ok)

/-- RELEASE (R160). -/
def releaseOwner (_ : Unit) (s : State) : Answer := plain (releaseStep s)

/-- RESTART_AT: song, bar and optional tempo (R161). -/
def restartAtOwner (a : Nat × Nat × Option Nat) (s : State) : Answer := plain (restartStep a.1 a.2.1 a.2.2 s)

/-- READ_STOP (R168). -/
def readStopOwner (_ : Unit) (s : State) : Answer := readOk (stopData s) s

def execStop (l : Link) (p : List Byte) (s : State) : Host.Outcome State Fault Refusal :=
  live (request l 5 stageOrPodium noOperand (stopOwner l) p) s

def execRelease (l : Link) (p : List Byte) (s : State) : Host.Outcome State Fault Refusal :=
  live (request l 3 stageOnly noOperand releaseOwner p) s

def execRestartAt (l : Link) (p : List Byte) (s : State) : Host.Outcome State Fault Refusal :=
  live (request l 7 podiumOnly restartOperands restartAtOwner p) s

def execReadStop (l : Link) (p : List Byte) (s : State) : Host.Outcome State Fault Refusal :=
  live (request l 49 anyLink noOperand readStopOwner p) s

/-- A stop line shows a level; a pending change that had held its 2,000 µs is settled first (R154). A part
held in reset takes no event, but the pin keeps its level (log entry 6). -/
def execLineChange (l : StopLine) (active : Bool) (s : State) : Host.Outcome State Fault Refusal :=
  if s.inReset then .next (s.onScu (Scu.onLine l fun r => { r with pin := active }))
  else
    let s := settleLine l s
    .next (s.onScu (Scu.onLine l (LineRecord.shows active s.now)))

/-- A stop line has held its new level for 2,000 µs (R154). -/
def execLineSettle (l : StopLine) (s : State) : Host.Outcome State Fault Refusal := live (settleLine l) s

end Sys2Proof.Machine
end

