-- ==== Sys2Proof/Machine/Tempo.lean ====
section
/-! DEFINITION. The meanings of the Tempo Unit's commands: TEMPO, HANDOVER, SET_ESTIMATOR, its reads, the beat
edges, the grid beat, the miss check and the hand-overs it takes (R36 to R59). -/

namespace Sys2Proof.Machine

/-- A period a TEMPO request may carry (R44). -/
def tempoPeriod (p : Option Nat) : Option Nat :=
  p.bind fun x => if within Config.periodMin Config.periodMax x then some x else none

/-- The result of a TEMPO request whose period the bounds in force change or not (R44). -/
def boundResult (p : Nat) (s : State) : Result :=
  if clampNat s.tmu.pmin s.tmu.pmax p = p then .ok else .clamped

/-- TEMPO: mode and optional period (R44). -/
def tempoOwner (a : Nat × Option Nat) (s : State) : Answer :=
  if s.scu.showState = .running then
    match a.1, tempoPeriod a.2 with
    | 0, _ => plain (tempoFollow s, .ok)
    | 1, some p => plain (tempoFixed p s, boundResult p s)
    | 2, some p => plain (tempoLink p s, boundResult p s)
    | _, _ => plain (s, .range)
  else plain (s, .refusedState)

/-- HANDOVER: target podium and timing (R39). -/
def handoverOwner (a : Nat × Nat) (s : State) : Answer :=
  if within 0 1 a.1 && within 0 1 a.2 then
    let target : Podium := if a.1 = 0 then .a else .b
    if target = s.tmu.active then plain (s.onTmu fun t => { t with handover := none }, .ok)
    else if a.2 = 1 ∧ (s.scu.showState = .countIn ∨ s.scu.showState = .running) then
      plain (s.onTmu fun t => { t with handover := some target }, .ok)
    else plain (handoverEffect target s, .ok)
  else plain (s, .range)

/-- The ranges of the estimator settings and the debounce time (R58). -/
def Estimator.valid (e : Estimator) : Bool :=
  within 0 6 e.depth && within 4 32 e.window && within 2 8 e.reseed && within 0 4 e.gain && within 1 16 e.cut &&
  within 10000 100000 e.debounce

/-- SET_ESTIMATOR (R58). -/
def setEstimatorOwner (e : Estimator) (s : State) : Answer :=
  if e.valid then plain (s.onTmu fun t => { t with settings := e }, .ok) else plain (s, .range)

/-- READ_TEMPO (R59). -/
def readTempoOwner (_ : Unit) (s : State) : Answer := readOk (tempoData s.tmu) s

/-- READ_ESTIMATOR (R58). -/
def readEstimatorOwner (_ : Unit) (s : State) : Answer := readOk (estimatorData s.tmu.settings) s

/-- READ_CAPTURE_LOG (R38). -/
def readCaptureOwner (podium : Nat) (s : State) : Answer :=
  match podium with
  | 0 => readOk (captureData s.tmu.lineA) s
  | 1 => readOk (captureData s.tmu.lineB) s
  | _ => readKeyed .range [] s

def execTempo (l : Link) (p : List Byte) (s : State) : Host.Outcome State Fault Refusal :=
  live (request l 9 podiumOnly tempoOperands tempoOwner p) s

def execHandover (l : Link) (p : List Byte) (s : State) : Host.Outcome State Fault Refusal :=
  live (request l 10 podiumOnly bytePair handoverOwner p) s

def execSetEstimator (l : Link) (p : List Byte) (s : State) : Host.Outcome State Fault Refusal :=
  live (request l 32 rigOnly estimatorOperand setEstimatorOwner p) s

def execReadTempo (l : Link) (p : List Byte) (s : State) : Host.Outcome State Fault Refusal :=
  live (request l 58 anyLink noOperand readTempoOwner p) s

def execReadEstimator (l : Link) (p : List Byte) (s : State) : Host.Outcome State Fault Refusal :=
  live (request l 59 anyLink noOperand readEstimatorOwner p) s

def execReadCaptureLog (l : Link) (p : List Byte) (s : State) : Host.Outcome State Fault Refusal :=
  live (request l 60 anyLink oneByte readCaptureOwner p) s

/-- A rising edge on a podium beat input: a bounce, or taken (R36). -/
def beatEdgeStep (p : Podium) (s : State) : State :=
  if s.tmu.bounces p s.now then s.onTmu (Tmu.onLine p fun l => { l with bounces := satInc l.bounces })
  else takeEdge p s

def execBeatEdge (p : Podium) (s : State) : Host.Outcome State Fault Refusal := live (beatEdgeStep p) s

/-- The TMU emits a grid beat and the SCU takes it (R12, R29, R47). -/
def execGridBeat (s : State) : Host.Outcome State Fault Refusal := live emitAndTake s

/-- A miss check is reached (R56). -/
def execMissCheck (s : State) : Host.Outcome State Fault Refusal := live takeMiss s

/-- The TMU takes the hand-over at its head when it is of a kind (R158). -/
def takeTmuHead (kind : HandOver → Bool) (s : State) : State :=
  match s.tmu.hands with
  | [] => s
  | h :: rest => if kind h then takeTmu (s.onTmu fun t => { t with hands := rest }) h else s

/-- The TMU takes the entry to HOLD (R41, R158). -/
def execTmuHoldEntry (s : State) : Host.Outcome State Fault Refusal := live (takeTmuHead HandOver.isHold) s

/-- The TMU takes the show reset (R41, R194). -/
def execTmuShowReset (s : State) : Host.Outcome State Fault Refusal := live (takeTmuHead HandOver.isReset) s

end Sys2Proof.Machine
end

