-- ==== Sys2Proof/Machine/Video.lean ====
section
/-! DEFINITION. The meanings of the Video Unit's commands: the panic list, the feed base record, SET_FEED,
SET_FEED_MEASURE, READ_VIDEO, the cameras, the feeds' frames and echoes, and the hand-overs it takes (R138 to
R152). -/

namespace Sys2Proof.Machine

/-! ## Panic list (R148, R149) -/

/-- A panic list entry is of a station and player. -/
def PanicEntry.isOf (st player : Nat) (p : PanicEntry) : Bool := p.station == st && p.player == player

/-- Raise a PANIC notice and let PANIC follow the list (R148, R149). PANIC's CONDITION notice is raised before the
PANIC notice, by the model's choice (log entry 75). -/
def tellPanic (st player : Nat) (o : PanicOutcome) (s : State) : State :=
  raiseNotice (.panic st player o) (panicCondition s)

/-- The VU takes a PANIC report (R148). -/
def takePanic (st player : Nat) (s : State) : State :=
  if within 1 8 player then
    let s := s.onVu fun v => { v with panicsTaken := v.panicsTaken + 1 }
    if s.vu.panic.any (PanicEntry.isOf st player) then
      tellPanic st player .repeated (s.onVu fun v =>
        { v with panic := v.panic.map fun p =>
            if p.isOf st player then { p with repeats := min 255 (p.repeats + 1) } else p })
    else
      let new : PanicEntry := ⟨st, player, s.now, 0⟩
      match s.vu.panic with
      | old :: rest =>
        if Config.panicMax ≤ s.vu.panic.length then
          tellPanic st player (.replaced old) (s.onVu fun v =>
            { v with panic := rest ++ [new], replaced := satInc v.replaced })
        else tellPanic st player .added (s.onVu fun v => { v with panic := v.panic ++ [new] })
      | [] => tellPanic st player .added (s.onVu fun v => { v with panic := [new] })
  else s.onVu fun v => { v with badPanic := satInc v.badPanic }

/-- The head of the report queue is taken by the VU when it is a PANIC (R112, R148). -/
def panicStep (s : State) : State :=
  match s.pbc.reports.head? with
  | some (st, .panic player) => takePanic st player (dropReport s)
  | _ => s

def execPanicReport (s : State) : Host.Outcome State Fault Refusal := live panicStep s

/-- ACK_PANIC: station and player (R149). -/
def ackPanicOwner (a : Nat × Nat) (s : State) : Answer :=
  if within 1 14 a.1 && within 1 8 a.2 then
    if s.vu.panic.any (PanicEntry.isOf a.1 a.2) then
      plain (tellPanic a.1 a.2 .acked (s.onVu fun v =>
        { v with panic := v.panic.filter fun p => !(p.isOf a.1 a.2) }), .ok)
    else plain (s, .notFound)
  else plain (s, .range)

/-- ACK_PANIC_ALL (R149). PANIC's CONDITION notice is raised before the PANIC notices, and these in the order of the
list, by the model's choice (log entry 75). -/
def ackAllOwner (_ : Unit) (s : State) : Answer :=
  let gone := s.vu.panic
  let s := panicCondition (s.onVu fun v => { v with panic := [] })
  plain (gone.foldl (fun s p => raiseNotice (.panic p.station p.player .acked) s) s, .ok)

def execAckPanic (l : Link) (p : List Byte) (s : State) : Host.Outcome State Fault Refusal :=
  live (request l 11 podiumOnly bytePair ackPanicOwner p) s

def execAckPanicAll (l : Link) (p : List Byte) (s : State) : Host.Outcome State Fault Refusal :=
  live (request l 12 podiumOnly noOperand ackAllOwner p) s

/-! ## Feeds -/

/-- WRITE_FEED_BASE (R140). -/
def writeFeedBaseOwner (a : Nat × FeedBase) (s : State) : Answer :=
  plain (writeStep (fun _ => failIf (!(within 1 6 a.1 && a.2.valid)) .range) (feedBaseWritten a.1 a.2) s)

/-- READ_FEED_BASE (R140). -/
def readFeedBaseOwner (n : Nat) (s : State) : Answer :=
  if within 1 6 n then readOk (s.feedBase n).bytes s else readKeyed .range [] s

/-- SET_FEED: feed set, source, overlay mask (R141). -/
def setFeedOwner (a : Mask × Option Nat × Option Mask) (s : State) : Answer :=
  if maskOk 1 6 a.1 && (a.2.1.isSome || a.2.2.isSome) && a.2.1.all (within 0 3) && a.2.2.all (maskWithin 0 4) then
    plain (feedAction a.1 (a.2.1.bind sourceOfCode) a.2.2 s, .ok)
  else plain (s, .range)

/-- A feed's measurement is turned on or off (R150, R151). -/
def Feed.setMeasure (on : Bool) (f : Feed) : Feed :=
  if f.measure = on then f
  else if on then { f with measure := true, phase := 0, loaded := false }
  else { f with measure := false, mark := none }

/-- SET_FEED_MEASURE: feed set; on or off (R151). -/
def setMeasureOwner (a : Mask × Nat) (s : State) : Answer :=
  if maskOk 1 6 a.1 && within 0 1 a.2 then
    plain ((maskNumbers a.1).foldl (fun s n => s.onFeed n (Feed.setMeasure (a.2 == 1))) s, .ok)
  else plain (s, .range)

/-- READ_VIDEO (R152). -/
def readVideoOwner (_ : Unit) (s : State) : Answer := readOk (videoData s) s

def execWriteFeedBase (l : Link) (p : List Byte) (s : State) : Host.Outcome State Fault Refusal :=
  live (request l 23 rigOnly feedBaseOperands writeFeedBaseOwner p) s

def execReadFeedBase (l : Link) (p : List Byte) (s : State) : Host.Outcome State Fault Refusal :=
  live (request l 57 anyLink oneByte readFeedBaseOwner p) s

def execSetFeed (l : Link) (p : List Byte) (s : State) : Host.Outcome State Fault Refusal :=
  live (request l 37 anyLink feedOperands setFeedOwner p) s

def execSetFeedMeasure (l : Link) (p : List Byte) (s : State) : Host.Outcome State Fault Refusal :=
  live (request l 35 rigOnly measureOperands setMeasureOwner p) s

def execReadVideo (l : Link) (p : List Byte) (s : State) : Host.Outcome State Fault Refusal :=
  live (request l 66 anyLink noOperand readVideoOwner p) s

/-! ## Cameras (R138, R139) -/

/-- A frame start less than 10,000 µs after the last one (R138). -/
def Camera.isGlitch (c : Camera) (now : Nat) : Bool :=
  match c.lastStart with
  | none => false
  | some t => decide (now < t + Config.framePeriodMin)

/-- The measured frame period after a frame start (R138). -/
def Camera.newPeriod (c : Camera) (now : Nat) : Option Nat :=
  match c.lastStart with
  | none => c.period
  | some t => if now - t ≤ Config.framePeriodMax then some (now - t) else c.period

/-- A camera record after a frame start that is no glitch (R138). -/
def Camera.start (now : Nat) (c : Camera) : Camera :=
  let p := c.newPeriod now
  { c with
    live := true
    seen := true
    lastStart := some now
    period := p
    deadline := some (now + match p with
      | some x => 3 * x
      | none => Config.cutDefault)
    starts := c.starts + 1 }

/-- SOURCE_CUT follows the cameras (R139). -/
def sourceCutCondition (s : State) : State := setCondition .sourceCut s.vu.sourceCut s

/-- A camera frame start (R138, R139, R142, R144). At a return SOURCE_CUT's CONDITION notice is raised before the
camera's VIDEO notice (log entry 75), and the feeds that switch do so in ascending feed order (log entry 77), both by
the model's choice. -/
def frameStartStep (c : Podium) (s : State) : State :=
  if (s.vu.cam c).isGlitch s.now then s.onCam c fun x => { x with glitches := satInc x.glitches }
  else
    let was := (s.vu.cam c).live
    let t := s.onCam c (Camera.start s.now)
    let t := if was then t else raiseNotice (.videoCamera c true) (sourceCutCondition t)
    framesAtOnce s ((upTo 6).foldl (feedOnFrameStart c) t)

/-- A LIVE camera's cut deadline is reached (R139). SOURCE_CUT's CONDITION notice is raised before the camera's VIDEO
notice, by the model's choice (log entry 75). -/
def cutStep (c : Podium) (s : State) : State :=
  if (s.vu.cam c).live && reachedOpt (s.vu.cam c).deadline s then
    let t := s.onCam c fun x => { x with live := false, cuts := satInc x.cuts }
    framesAtOnce s (raiseNotice (.videoCamera c false) (sourceCutCondition t))
  else s

def execCameraFrameStart (c : Podium) (s : State) : Host.Outcome State Fault Refusal :=
  live (frameStartStep c) s

def execCameraCut (c : Podium) (s : State) : Host.Outcome State Fault Refusal := live (cutStep c) s

/-! ## Frames and echoes (R144, R150, R151) -/

/-- A feed that shows a CUT camera or black begins its next frame (R144). -/
def feedFrameStep (n : Nat) (s : State) : State := if feedDue s n then freeRunFrame n s else s

/-- An edge on a feed's echo input (R150, R151). -/
def echoStep (n : Nat) (s : State) : State :=
  match (s.feed n).mark with
  | none => s
  | some t =>
    let s := s.onFeed n fun f => { f with mark := none }
    let sample := s.now - t
    if Config.latencyMax < sample then s.onFeed n fun f => { f with discarded := satInc f.discarded }
    else applySample n sample s

def execFeedFrame (n : Nat) (s : State) : Host.Outcome State Fault Refusal := live (feedFrameStep n) s

def execFeedEcho (n : Nat) (s : State) : Host.Outcome State Fault Refusal := live (echoStep n) s

/-! ## Hand-overs -/

/-- The VU takes the hand-over at its head when it is of a kind (R158). -/
def takeVuHead (kind : HandOver → Bool) (s : State) : State :=
  match s.vu.hands with
  | [] => s
  | h :: rest => if kind h then takeVu (s.onVu fun v => { v with hands := rest }) h else s

/-- The VU takes a delivered grid beat (R146). -/
def execBeatFlash (s : State) : Host.Outcome State Fault Refusal := live (takeVuHead HandOver.isBeat) s

/-- The VU takes the entry to HOLD (R146, R147). -/
def execVuHoldEntry (s : State) : Host.Outcome State Fault Refusal := live (takeVuHead HandOver.isHold) s

/-- The VU takes the show reset (R149, R194). -/
def execVuShowReset (s : State) : Host.Outcome State Fault Refusal := live (takeVuHead HandOver.isReset) s

end Sys2Proof.Machine
end

