-- ==== Sys2Proof/Machine/Clock.lean ====
section
/-! DEFINITION. What the part does of itself: the events that are due, as commands of the table, and the tick
of the show time base (R1, R2; log entry 1). -/

namespace Sys2Proof.Machine

/-- A command, when it is due. -/
def whenDue (due : Bool) (c : Instr) : List Instr := if due then [c] else []

/-- The hand-over event a block has waiting at its head (R158). -/
def headEvent (hands : List HandOver) (beat hold reset : List Instr) : List Instr :=
  match hands with
  | .beat _ :: _ => beat
  | .hold _ _ :: _ => hold
  | .showReset :: _ => reset
  | [] => []

/-- The report at the head of the inbound queue, as the event of the block it goes to (R112). -/
def reportEvent (s : State) (done panic join : Bool) : List Instr :=
  match s.pbc.reports.head? with
  | some (_, .done _ _) => whenDue done .doneReport
  | some (_, .fault _ _) => whenDue done .faultReport
  | some (_, .panic _) => whenDue panic .panicReport
  | some (_, .join _) => whenDue join .joinReport
  | none => []

/-- What a link's transmit side may begin now (R177, R183). -/
def sendEvent (s : State) (l : Link) : List Instr :=
  if txFree l s then
    match (s.lku.link l).responses, (s.lku.link l).notices with
    | _ :: _, _ => [.responseSend l]
    | [], _ :: _ => [.noticeSend l]
    | [], [] => []
  else []

/-- What the PBC may begin now (R108, R109). -/
def busEvent (s : State) : List Instr :=
  if busIsFree s then
    if s.pbc.broadcastDue then [.broadcastPoll] else whenDue (arbiter s).isSome (.busFree [])
  else []

/-- A click of a lane is due (R134). -/
def clickDue (s : State) (n : Nat) : Bool := (s.lane n).schedule.head?.any fun c => reached c.time s

/-- A lane's burst has reached its end (R134). -/
def burstDue (s : State) (n : Nat) : Bool := reachedOpt ((s.lane n).burst.map Burst.endTime) s

/-- A LIVE camera's cut deadline has been reached (R139). -/
def cutDue (s : State) (c : Podium) : Bool := (s.vu.cam c).live && reachedOpt (s.vu.cam c).deadline s

/-- A block's events: those of a due time that was set at or before now come first, as its next events, and at
the time base's last value all its timed ones do (R1, R2). -/
def nextOf (s : State) (atOnce timed rest : List Instr) : List Instr :=
  if s.now == timeMax && !timed.isEmpty then timed
  else if atOnce.isEmpty then rest ++ timed
  else atOnce

/-- The TMU's events (R47, R56, R158). -/
def tmuEvents (s : State) : List Instr :=
  nextOf s (whenDue (s.tmu.atOnce && beatDue s) .gridBeat)
    (whenDue (beatDue s) .gridBeat ++ whenDue (missDue s) .missCheck)
    (headEvent s.tmu.hands [] [.tmuHoldEntry] [.tmuShowReset])

/-- The CLU's events (R134, R158). -/
def cluEvents (s : State) : List Instr :=
  nextOf s []
    ((upTo 16).flatMap fun n => whenDue (clickDue s n) (.clickSound n) ++ whenDue (burstDue s n) (.burstEnd n))
    (headEvent s.clu.hands [.clickSchedule] [.cluHoldEntry] [])

/-- The PDU's events (R91 to R93, R158). -/
def pduEvents (s : State) : List Instr :=
  nextOf s [] ((upTo 14).flatMap fun n => whenDue ((s.queue n).any fun e => e.doneDue s) (.doneDeadline n))
    (headEvent s.pdu.hands [.landRecompute] [.pduHoldEntry] [.pduShowReset] ++ reportEvent s true false false)

/-- The CUE's events (R158). -/
def cueEvents (s : State) : List Instr :=
  headEvent s.cue.hands [.positionalFiring] [.cueHoldEntry] [.cueShowReset]

/-- The VU's events (R139, R144, R148, R158). -/
def vuEvents (s : State) : List Instr :=
  let frames (ns : List Nat) := ns.flatMap fun n => whenDue (feedDue s n) (.feedFrame n)
  nextOf s (frames s.vu.atOnce)
    (whenDue (cutDue s .a) (.cameraCut .a) ++ whenDue (cutDue s .b) (.cameraCut .b) ++ frames (upTo 6))
    (headEvent s.vu.hands [.beatFlash] [.vuHoldEntry] [.vuShowReset] ++ reportEvent s false true false)

/-- The PBC's events: a window's limit, what it may begin on the bus, and a JOIN (R104, R108, R115). -/
def pbcEvents (s : State) : List Instr :=
  nextOf s (if s.pbc.atOnce then busEvent s else []) (whenDue (noReplyDue s) .noReply)
    (busEvent s ++ reportEvent s false false true)

/-- The SCU's events (R154). -/
def scuEvents (s : State) : List Instr :=
  whenDue (lineDue .stage s) (.lineSettle .stage) ++ whenDue (lineDue .podium s) (.lineSettle .podium)

/-- The events that are due now, block by block: waiting hand-overs and the report at the head of its queue, due
times, and what may be sent (R2). -/
def dueEvents (s : State) : List Instr :=
  if s.inReset then []
  else
    tmuEvents s ++ cluEvents s ++ pduEvents s ++ cueEvents s ++ vuEvents s ++ scuEvents s ++ pbcEvents s ++
    whenDue (reachedOpt s.store.passEnd s) .backgroundPassEnd ++
    allLinks.flatMap (sendEvent s) ++ whenDue (rebootDue s) .rebootTakesEffect

/-- The click output frame that begins now, at a show time that is a multiple of 125 µs, carries what the lanes
hold (R134). -/
def beginClickFrame (s : State) : State :=
  if s.now % Config.clickFramePeriod = 0 then s.onClu fun c => { c with frame := clickFrame s } else s

/-- One microsecond of the show time base, with the click output frame that begins in it, taken when every event
of the moment has been; the time stays at its last value, and stands still in reset (R1, R134, R193). -/
def tick (s : State) : State := if s.inReset then s else (beginClickFrame s).setNow (min timeMax (s.now + 1))

/-- The event the part takes next of itself, if one is due: of several, the one a free value chooses (R2;
log entry 3). -/
def nextEvent (s : State) : Option (Instr × State) :=
  match dueEvents s with
  | [] => none
  | [c] => some (c, s)
  | c :: cs => some ((c :: cs).getD (Config.dueChoice s.freeIdx % (cs.length + 1)) c, s.nextFree)

end Sys2Proof.Machine
end

