-- ==== Sys2Proof/Machine/Charts.lean ====
section
/-! DEFINITION. The meanings of the chart commands: WRITE_SONG, DELETE_SONG, WRITE_PATTERN and the chart reads
(R19 to R28). -/

namespace Sys2Proof.Machine

/-- WRITE_SONG (R22 to R26). -/
def writeSongOwner (a : Bool × Song) (s : State) : Answer :=
  plain (writeStep (writeSongCheck a.1 a.2) (songWritten a.2.number (some a.2)) s)

/-- DELETE_SONG (R22, R24 to R26). -/
def deleteSongOwner (n : Nat) (s : State) : Answer := plain (writeStep (deleteSongCheck n) (songWritten n none) s)

/-- WRITE_PATTERN (R22, R27). -/
def writePatternOwner (a : Nat × Pattern) (s : State) : Answer :=
  plain (writeStep (fun _ => failIf (!(within 0 15 a.1 && a.2.valid)) .range)
    (makeWrite [.pattern a.1] fun st => { st with patterns := st.patterns.set a.1 a.2 }) s)

/-- READ_SONG (R28). -/
def readSongOwner (n : Nat) (s : State) : Answer :=
  if within 1 64 n then
    match s.store.song n with
    | some g => readOk (songData g) s
    | none => readKeyed .notFound [] s
  else readKeyed .range [] s

/-- READ_PATTERN (R28). -/
def readPatternOwner (n : Nat) (s : State) : Answer :=
  if within 0 15 n then readOk (s.store.patterns.getD n default).bytes s else readKeyed .range [] s

/-- READ_STORE_SPACE (R28). -/
def readSpaceOwner (_ : Unit) (s : State) : Answer := readOk (spaceData s.store) s

def execWriteSong (l : Link) (p : List Byte) (s : State) : Host.Outcome State Fault Refusal :=
  live (request l 16 rigOnly songOperand writeSongOwner p) s

def execDeleteSong (l : Link) (p : List Byte) (s : State) : Host.Outcome State Fault Refusal :=
  live (request l 17 rigOnly oneByte deleteSongOwner p) s

def execWritePattern (l : Link) (p : List Byte) (s : State) : Host.Outcome State Fault Refusal :=
  live (request l 18 rigOnly patternOperands writePatternOwner p) s

def execReadSong (l : Link) (p : List Byte) (s : State) : Host.Outcome State Fault Refusal :=
  live (request l 50 anyLink oneByte readSongOwner p) s

def execReadPattern (l : Link) (p : List Byte) (s : State) : Host.Outcome State Fault Refusal :=
  live (request l 51 anyLink oneByte readPatternOwner p) s

def execReadStoreSpace (l : Link) (p : List Byte) (s : State) : Host.Outcome State Fault Refusal :=
  live (request l 52 anyLink noOperand readSpaceOwner p) s

end Sys2Proof.Machine
end

