-- ==== Sys2Proof/Machine/Dispatch.lean ====
section
/-! DEFINITION. The meaning of a command: one arm for each constructor of `Instr`. -/

namespace Sys2Proof.Machine

/-- The effect of a command on everything but the queue. -/
def exec (i : Instr) (s : State) : Host.Outcome State Fault Refusal :=
  match i with
  | .go l p => Sys2Proof.Machine.execGo l p s
  | .standby l p => Sys2Proof.Machine.execStandby l p s
  | .release l p => Sys2Proof.Machine.execRelease l p s
  | .arm l p => Sys2Proof.Machine.execArm l p s
  | .stop l p => Sys2Proof.Machine.execStop l p s
  | .count l p => Sys2Proof.Machine.execCount l p s
  | .restartAt l p => Sys2Proof.Machine.execRestartAt l p s
  | .vampExit l p => Sys2Proof.Machine.execVampExit l p s
  | .tempo l p => Sys2Proof.Machine.execTempo l p s
  | .handover l p => Sys2Proof.Machine.execHandover l p s
  | .ackPanic l p => Sys2Proof.Machine.execAckPanic l p s
  | .ackPanicAll l p => Sys2Proof.Machine.execAckPanicAll l p s
  | .writeSong l p => Sys2Proof.Machine.execWriteSong l p s
  | .deleteSong l p => Sys2Proof.Machine.execDeleteSong l p s
  | .writePattern l p => Sys2Proof.Machine.execWritePattern l p s
  | .writeCue l p => Sys2Proof.Machine.execWriteCue l p s
  | .deleteCue l p => Sys2Proof.Machine.execDeleteCue l p s
  | .writeRoster l p => Sys2Proof.Machine.execWriteRoster l p s
  | .writeLaneBase l p => Sys2Proof.Machine.execWriteLaneBase l p s
  | .writeFeedBase l p => Sys2Proof.Machine.execWriteFeedBase l p s
  | .seal l p => Sys2Proof.Machine.execSeal l p s
  | .lock l p => Sys2Proof.Machine.execLock l p s
  | .unlock l p => Sys2Proof.Machine.execUnlock l p s
  | .resetShow l p => Sys2Proof.Machine.execResetShow l p s
  | .reboot l p => Sys2Proof.Machine.execReboot l p s
  | .setEstimator l p => Sys2Proof.Machine.execSetEstimator l p s
  | .setDispatch l p => Sys2Proof.Machine.execSetDispatch l p s
  | .setProbe l p => Sys2Proof.Machine.execSetProbe l p s
  | .setFeedMeasure l p => Sys2Proof.Machine.execSetFeedMeasure l p s
  | .setLane l p => Sys2Proof.Machine.execSetLane l p s
  | .setFeed l p => Sys2Proof.Machine.execSetFeed l p s
  | .clearStatus l p => Sys2Proof.Machine.execClearStatus l p s
  | .setMasks l p => Sys2Proof.Machine.execSetMasks l p s
  | .forceE l p => Sys2Proof.Machine.execForceE l p s
  | .forceW l p => Sys2Proof.Machine.execForceW l p s
  | .readShow l p => Sys2Proof.Machine.execReadShow l p s
  | .readStop l p => Sys2Proof.Machine.execReadStop l p s
  | .readSong l p => Sys2Proof.Machine.execReadSong l p s
  | .readPattern l p => Sys2Proof.Machine.execReadPattern l p s
  | .readStoreSpace l p => Sys2Proof.Machine.execReadStoreSpace l p s
  | .readCue l p => Sys2Proof.Machine.execReadCue l p s
  | .readCues l p => Sys2Proof.Machine.execReadCues l p s
  | .readRoster l p => Sys2Proof.Machine.execReadRoster l p s
  | .readLaneBase l p => Sys2Proof.Machine.execReadLaneBase l p s
  | .readFeedBase l p => Sys2Proof.Machine.execReadFeedBase l p s
  | .readTempo l p => Sys2Proof.Machine.execReadTempo l p s
  | .readEstimator l p => Sys2Proof.Machine.execReadEstimator l p s
  | .readCaptureLog l p => Sys2Proof.Machine.execReadCaptureLog l p s
  | .readDispatch l p => Sys2Proof.Machine.execReadDispatch l p s
  | .readStation l p => Sys2Proof.Machine.execReadStation l p s
  | .readBus l p => Sys2Proof.Machine.execReadBus l p s
  | .readLane l p => Sys2Proof.Machine.execReadLane l p s
  | .readLanes l p => Sys2Proof.Machine.execReadLanes l p s
  | .readVideo l p => Sys2Proof.Machine.execReadVideo l p s
  | .readStatus l p => Sys2Proof.Machine.execReadStatus l p s
  | .readSeal l p => Sys2Proof.Machine.execReadSeal l p s
  | .unknownRequest l code p => Sys2Proof.Machine.execUnknownRequest l code p s
  | .runFrame l code p => Sys2Proof.Machine.execRunFrame l code p s
  | .badFrame l => Sys2Proof.Machine.execBadFrame l s
  | .frameGapTimeout l => Sys2Proof.Machine.execFrameGapTimeout l s
  | .framingErrorJudge l => Sys2Proof.Machine.execFramingErrorJudge l s
  | .linkBreak l => Sys2Proof.Machine.execLinkBreak l s
  | .responseSend l => Sys2Proof.Machine.execResponseSend l s
  | .noticeSend l => Sys2Proof.Machine.execNoticeSend l s
  | .powerOn => Sys2Proof.Machine.execPowerOn s
  | .resetPin => Sys2Proof.Machine.execResetPin s
  | .rebootTakesEffect => Sys2Proof.Machine.execRebootTakesEffect s
  | .broadcastPoll => Sys2Proof.Machine.execBroadcastPoll s
  | .beatEdge line => Sys2Proof.Machine.execBeatEdge line s
  | .gridBeat => Sys2Proof.Machine.execGridBeat s
  | .missCheck => Sys2Proof.Machine.execMissCheck s
  | .positionalFiring => Sys2Proof.Machine.execPositionalFiring s
  | .landRecompute => Sys2Proof.Machine.execLandRecompute s
  | .entrySendable station rivals => Sys2Proof.Machine.execEntrySendable station rivals s
  | .busFree rivals => Sys2Proof.Machine.execBusFree rivals s
  | .probeDue station rivals => Sys2Proof.Machine.execProbeDue station rivals s
  | .recoveryPollDue station rivals => Sys2Proof.Machine.execRecoveryPollDue station rivals s
  | .ack station tally => Sys2Proof.Machine.execAck station tally s
  | .nak station tally => Sys2Proof.Machine.execNak station tally s
  | .probeReply station tally t2 t3 t4 => Sys2Proof.Machine.execProbeReply station tally t2 t3 t4 s
  | .pollReply station tally report => Sys2Proof.Machine.execPollReply station tally report s
  | .noReply => Sys2Proof.Machine.execNoReply s
  | .attention station tally report => Sys2Proof.Machine.execAttention station tally report s
  | .damagedFrame => Sys2Proof.Machine.execDamagedFrame s
  | .unexpectedFrame => Sys2Proof.Machine.execUnexpectedFrame s
  | .doneReport => Sys2Proof.Machine.execDoneReport s
  | .faultReport => Sys2Proof.Machine.execFaultReport s
  | .panicReport => Sys2Proof.Machine.execPanicReport s
  | .joinReport => Sys2Proof.Machine.execJoinReport s
  | .doneDeadline station => Sys2Proof.Machine.execDoneDeadline station s
  | .clickSchedule => Sys2Proof.Machine.execClickSchedule s
  | .clickSound lane => Sys2Proof.Machine.execClickSound lane s
  | .burstEnd lane => Sys2Proof.Machine.execBurstEnd lane s
  | .beatFlash => Sys2Proof.Machine.execBeatFlash s
  | .cameraFrameStart cam => Sys2Proof.Machine.execCameraFrameStart cam s
  | .cameraCut cam => Sys2Proof.Machine.execCameraCut cam s
  | .feedFrame feed => Sys2Proof.Machine.execFeedFrame feed s
  | .feedEcho feed => Sys2Proof.Machine.execFeedEcho feed s
  | .lineChange line active => Sys2Proof.Machine.execLineChange line active s
  | .lineSettle line => Sys2Proof.Machine.execLineSettle line s
  | .tmuHoldEntry => Sys2Proof.Machine.execTmuHoldEntry s
  | .cluHoldEntry => Sys2Proof.Machine.execCluHoldEntry s
  | .pduHoldEntry => Sys2Proof.Machine.execPduHoldEntry s
  | .cueHoldEntry => Sys2Proof.Machine.execCueHoldEntry s
  | .vuHoldEntry => Sys2Proof.Machine.execVuHoldEntry s
  | .backgroundPassEnd => Sys2Proof.Machine.execBackgroundPassEnd s
  | .storageFault part offs value => Sys2Proof.Machine.execStorageFault part offs value s
  | .byteInHunt l b => Sys2Proof.Machine.execByteInHunt l b s
  | .discardingRunFrame l code last => Sys2Proof.Machine.execDiscardingRunFrame l code last s
  | .heldInReset => Sys2Proof.Machine.execHeldInReset s
  | .tmuShowReset => Sys2Proof.Machine.execTmuShowReset s
  | .cueShowReset => Sys2Proof.Machine.execCueShowReset s
  | .pduShowReset => Sys2Proof.Machine.execPduShowReset s
  | .vuShowReset => Sys2Proof.Machine.execVuShowReset s
  | .showTimeBaseSaturates => Sys2Proof.Machine.execShowTimeBaseSaturates s

end Sys2Proof.Machine
end

