-- ==== Sys2Proof/Safety.lean ====
section
/-! DEFINITION. What a safe run of the part keeps, and the terms the statements about it are made in: the
completion of a request on a link, the rights table, and the invariants of the stop, the seal, the queues
and the show time base. -/

namespace Sys2Proof.Machine

/-! ## Requests (R175 to R178) -/

/-- No RESET_SHOW of this link is still being taken by the blocks (R194). -/
def settled (l : Link) (s : State) : Prop := l = .rig → s.lku.resetOwed = false

/-- The last frame of a request of a code completes it on a link with a whole payload, with room for its
response and no RESET_SHOW of the link still being taken: on its own, as the last frame of the open run of its
code, or as a frame of another code that ends a discard (R175, R176, R194). -/
def Completes (l : Link) (code : Nat) (p whole : List Byte) (s : State) : Prop :=
  s.inReset = false ∧ (s.lku.link l).responses.length < 8 ∧ settled l s ∧
    match (s.lku.link l).discarding, (s.lku.link l).run with
    | none, none => whole = p
    | none, some x => x.code = BitVec.ofNat 8 code ∧ whole = x.bytes ++ p ∧ whole.length ≤ 2048
    | some c, none => c ≠ BitVec.ofNat 8 code ∧ whole = p
    | some _, some _ => False

/-- The part as a completed request's owner finds it: the link is back in HUNT with no run and no discard,
and the request is counted as taken (R172, R175, R176). -/
def taken (l : Link) (s : State) : State :=
  s.onLink l fun r =>
    { r with recv := .hunt, run := none, discarding := none, requests := r.requests + 1 }

/-- The rights table of R178: which links a request may come from; a command that is no request of a link's
table has no line there and counts as allowed. -/
def mayTake : Instr → Link → Bool
  | .go .., l | .standby .., l | .release .., l => l == .stage
  | .arm .., l | .stop .., l => l == .stage || l == .podium
  | .count .., l | .restartAt .., l | .vampExit .., l | .tempo .., l | .handover .., l | .ackPanic .., l
  | .ackPanicAll .., l => l == .podium
  | .writeSong .., l | .deleteSong .., l | .writePattern .., l | .writeCue .., l | .deleteCue .., l
  | .writeRoster .., l | .writeLaneBase .., l | .writeFeedBase .., l | .seal .., l | .lock .., l
  | .unlock .., l | .resetShow .., l | .reboot .., l | .setEstimator .., l | .setDispatch .., l
  | .setProbe .., l | .setFeedMeasure .., l => l == .rig
  | _, _ => true

/-- The requests that carry nothing (R186). -/
def carriesNothing : Instr → Bool
  | .release .. | .stop .. | .vampExit .. | .ackPanicAll .. | .lock .. | .unlock .. | .resetShow ..
  | .reboot .. | .clearStatus .. | .readShow .. | .readStop .. | .readStoreSpace .. | .readCues ..
  | .readRoster .. | .readTempo .. | .readEstimator .. | .readBus .. | .readLanes .. | .readVideo ..
  | .readStatus .. | .readSeal .. => true
  | _ => false

/-- The bytes of a list of `n` actions are as many as the kinds of the actions give (R186, R188). A list is judged up
to an action of a kind that R187 does not give, and a presence byte is 0 or 1 (log entry 26). -/
def actionsFit : Nat → List Byte → Bool
  | 0, bs => bs.isEmpty
  | _ + 1, [] => false
  | n + 1, k :: bs =>
    let content (size : Nat) : Bool := decide (size ≤ bs.length) && actionsFit n (bs.drop size)
    let optional (start size : Nat) : Option Nat :=
      match bs[start]? with
      | some 0 => some (start + 1)
      | some 1 => some (start + 1 + size)
      | _ => none
    match k.toNat with
    | 1 => content 5
    | 2 => (optional 3 1).any content
    | 3 => ((optional 2 1).bind fun x => optional x 2).any content
    | 4 => content 0
    | 5 => content 5
    | _ => true

/-- The payload lengths of R186: a payload of a length that its request does not allow has `false` (WRITE_SONG: the
length that its two counts give; WRITE_CUE: the length that its action count and its actions' kinds give). -/
def lengthAllowed (i : Instr) (p : List Byte) : Bool :=
  let oneOf (ns : List Nat) : Bool := ns.contains p.length
  match i with
  | .go .. | .standby .. => oneOf [1, 3]
  | .arm .. => oneOf [2, 4]
  | .count .. => oneOf [1, 7]
  | .restartAt .. => oneOf [4, 6]
  | .tempo .. => oneOf [2, 6]
  | .handover .. | .ackPanic .. | .deleteCue .. | .seal .. | .readCue .. => oneOf [2]
  | .writeSong .. =>
    match p[1]? with
    | none => false
    | some n =>
      match p[4 + 20 * n.toNat]? with
      | none => false
      | some m => oneOf [5 + 20 * n.toNat + 4 * m.toNat]
  | .writePattern .. => oneOf [14]
  | .writeCue .. =>
    match p[11]? with
    | none => false
    | some n => actionsFit n.toNat (p.drop 12)
  | .writeRoster .. =>
    match p.head? with
    | none => false
    | some n => oneOf [1 + n.toNat]
  | .writeLaneBase .. => oneOf [10]
  | .writeFeedBase .. => oneOf [6]
  | .setEstimator .. => oneOf [9]
  | .setFeedMeasure .. => oneOf [3]
  | .setLane .. => oneOf [4, 5, 8, 9]
  | .setFeed .. => oneOf [4, 5, 6, 7]
  | .setMasks .. => oneOf [3, 5, 7, 9]
  | .deleteSong .. | .setDispatch .. | .setProbe .. | .forceE .. | .forceW .. | .readSong .. | .readPattern ..
  | .readLaneBase .. | .readFeedBase .. | .readCaptureLog .. | .readDispatch .. | .readStation ..
  | .readLane .. => oneOf [1]
  | _ => !(carriesNothing i) || p.isEmpty

/-- A link's response queue gained one response of a code, with a result and data, stamped now (R177). -/
def Answered (l : Link) (code : Nat) (result : Result) (data : List Byte) (s t : State) : Prop :=
  ∃ r, (t.lku.link l).responses = (s.lku.link l).responses ++ [r] ∧ r.code = BitVec.ofNat 8 code ∧
    r.result = result ∧ r.data = data ∧ r.time = s.now ∧ r.showState = t.scu.showState

/-- The response to a request other than REBOOT is formed on a link (R177, R184). -/
def answer (l : Link) (code : Nat) (result : Result) (data : List Byte) (s : State) : State :=
  respond l (BitVec.ofNat 8 code) result data false s

/-- Now, or a later time within 48 bits: where a next grid beat time is set to `x` (R1, R2, R47). -/
def nowOrLater (now : Nat) (x : Int) : Nat := max now (min x.toNat timeMax)

/-- Every waiting hand-over of a block is followed by one more (R158). -/
def handed (h : HandOver) (s t : List HandOver) : Prop := t = s ++ [h]

/-! ## Records in range (R23, R61, R62) -/

/-- A song record passes every check of R23. -/
def SongInRange (g : Song) : Prop :=
  (1 ≤ g.number ∧ g.number ≤ 64) ∧ (∀ n, g.segue = some n → 1 ≤ n ∧ n ≤ 64) ∧
  (1 ≤ g.segments.length ∧ g.segments.length ≤ 32) ∧ (∀ x, g.segments[0]? = some x → x.firstBar = 1) ∧
  (∀ (j : Nat) (a b : Segment), g.segments[j]? = some a → g.segments[j + 1]? = some b →
    b.firstBar = a.firstBar + a.barCount) ∧
  (∀ x, g.segments.getLast? = some x → x.firstBar + x.barCount ≤ 9999 + 1) ∧
  (∀ x ∈ g.segments, (1 ≤ x.barCount ∧ x.barCount ≤ 999) ∧ (1 ≤ x.meter ∧ x.meter ≤ 12) ∧ x.pattern ≤ 15 ∧
    (200000 ≤ x.pmin ∧ x.pmin ≤ x.pmax ∧ x.pmax ≤ 2000000) ∧
    ∀ pf, x.fixed = some pf → x.pmin ≤ pf ∧ pf ≤ x.pmax) ∧
  g.countIn ≤ 2 ∧ g.opening.length ≤ 32 ∧
  (∀ o ∈ g.opening, (1 ≤ o.station ∧ o.station ≤ 14) ∧ o.layer ≤ 7 ∧ o.patch ≤ 4095) ∧
  g.opening.Pairwise fun o p => ¬ (o.station = p.station ∧ o.layer = p.layer)

/-- A cue's chart place and lead fit a song (R25, R62): its bar lies in the song, and, of a POSITION cue, its beat
in the meter of the segment holding the bar, and its lead is 0-8 and no more than its beat index there. -/
def CueFits (g : Song) (c : Cue) : Prop :=
  match c.kind with
  | .go bar => 1 ≤ bar ∧ bar ≤ g.lastBar
  | .position bar beat lead _ =>
    1 ≤ bar ∧ bar ≤ g.lastBar ∧ ∃ x, g.segmentAt bar = some x ∧ 1 ≤ beat ∧ beat ≤ x.meter ∧ lead ≤ 8 ∧
      (lead : Int) ≤ ((bar : Int) - x.firstBar) * x.meter + ((beat : Int) - 1)

/-- An action's content lies within R61, and a LANE or FEED action names a set and sets something (R62). That bit
0 of a set names nothing is log entry 30. -/
def ActionInRange : Action → Prop
  | .patch st layer p _ => (1 ≤ st ∧ st ≤ 14) ∧ layer ≤ 7 ∧ p ≤ 4095
  | .lane lanes _ pattern => lanes ≠ 0#16 ∧ lanes.getLsbD 0 = false ∧ ∀ k, pattern = some k → k ≤ 15
  | .feed feeds source overlay =>
    feeds ≠ 0#16 ∧ (∀ b < 16, feeds.getLsbD b = true → 1 ≤ b ∧ b ≤ 6) ∧ (source ≠ none ∨ overlay ≠ none) ∧
      ∀ m, overlay = some m → ∀ b < 16, m.getLsbD b = true → b ≤ 4
  | .vampExit => True
  | .tempo fixed => ∀ p, fixed = some p → 200000 ≤ p ∧ p ≤ 2000000

/-! ## Patch changes (R69, R75, R79, R83) -/

/-- The queue order of R79: by land time, and by sequence where that is equal. -/
def InQueueOrder (q : List Entry) : Prop :=
  q.Pairwise fun a b => a.landTime < b.landTime ∨ (a.landTime = b.landTime ∧ a.seq.toNat ≤ b.seq.toNat)

/-- The land form and time of the change that a PATCH action of a cue run by GO makes (R69, R83). -/
def landAtGo (s : State) (x : Segment) (d : Place) : LandWritten → LandForm × Nat
  | .nextBeat =>
    match s.tmu.nextBeat with
    | some n => (.time, n)
    | none => (.now, s.now)
  | .nextBar =>
    match s.tmu.nextBeat with
    | some n => (.nextDownbeat, if s.tmu.emitted = [] then n else n + (x.meter - d.beat) * (s.tmu.p16 / 16))
    | none => (.now, s.now)
  | _ => (.now, s.now)

/-- A bar and beat are at or before another in chart order. -/
def atOrBefore (a b : Nat × Nat) : Prop := a.1 < b.1 ∨ (a.1 = b.1 ∧ a.2 ≤ b.2)

/-- The last PATCH action of a list for a station and layer carries a patch (R75). -/
def LastPatch (station layer patch : Nat) (actions : List Action) : Prop :=
  ∃ before land after, actions = before ++ Action.patch station layer patch land :: after ∧
    ∀ p l, Action.patch station layer p l ∉ after

/-- A cue of the song at or before the bar's first beat sets a station's layer (R75). -/
def SetsPair (song bar station layer : Nat) (c : Cue) : Prop :=
  c.song = song ∧ atOrBefore c.place (bar, 1) ∧ ∃ p, LastPatch station layer p c.actions

/-- The target patch of a station and layer for a song at a bar: that of the latest cue in chart order that sets
the pair, the higher id of two at one place; with none, that of the opening patch list (R75). -/
def IsTarget (st : Store) (song bar station layer patch : Nat) : Prop :=
  (∃ e ∈ st.cues, SetsPair song bar station layer e.cue ∧ LastPatch station layer patch e.cue.actions ∧
    ∀ d ∈ st.cues, SetsPair song bar station layer d.cue → atOrBefore d.cue.place e.cue.place ∧
      (d.cue.place = e.cue.place → d.cue.id ≤ e.cue.id)) ∨
  (∀ e ∈ st.cues, ¬ SetsPair song bar station layer e.cue) ∧ ∃ g, st.song song = some g ∧
    (g.opening.find? fun o => o.station == station && o.layer == layer).map Opening.patch = some patch

/-- A pair needs a change to its target: the station's current patch is another or unknown, or an open entry of the
layer carries another (R76). -/
def NeedsChange (s : State) (song bar station layer patch : Nat) : Prop :=
  IsTarget s.store song bar station layer patch ∧
    ¬ ((s.station station).patches.getD layer none = some patch ∧
      ∀ d ∈ s.queue station, d.isOpen = true → d.layer = layer → d.patch = patch)

/-! ## Frames -/

/-- The blocks other than the Link Unit are as they were. -/
def sameBlocks (s t : State) : Prop :=
  t.now = s.now ∧ t.inReset = s.inReset ∧ t.scu = s.scu ∧ t.tmu = s.tmu ∧ t.store = s.store ∧
    t.cue = s.cue ∧ t.pdu = s.pdu ∧ t.pbc = s.pbc ∧ t.clu = s.clu ∧ t.vu = s.vu ∧
    t.freeIdx = s.freeIdx ∧ t.pending = s.pending

/-- What a write of song `n` that is made leaves of the SCU and the CUE: outside HOLD held from a song, the
position record, the armed position and the GO pointer are cleared when the position record or the armed
position names the song, and in HOLD the restart point when it names it (R26). -/
def clearsHeldSong (n : Nat) (s t : State) : Prop :=
  let free := ¬ (s.scu.showState = .hold ∧ s.scu.heldFrom = some .song)
  let names := s.scu.position.place.map Place.song = some n ∨ s.scu.armed.map Prod.fst = some n
  t.scu = { s.scu with
    position := if free ∧ names then default else s.scu.position
    armed := if free ∧ names then none else s.scu.armed
    restart :=
      if free ∧ s.scu.showState = .hold ∧ s.scu.restart.map Restart.song = some n then none
      else s.scu.restart } ∧
  t.cue = { s.cue with goPointer := if free ∧ names then none else s.cue.goPointer }

/-- The TMU has entered IDLE: no next grid beat, correction, override, waiting linked period, match state, mark or miss
check, the last beat emitted being kept without them; a pending handover has taken effect, and the period and its
bounds are kept (R39, R41, R49). -/
def enteredIdle (s t : State) : Prop :=
  t.tmu.tempo = .idle ∧ t.tmu.nextBeat = none ∧ t.tmu.p16 = s.tmu.p16 ∧ t.tmu.pmin = s.tmu.pmin ∧
    t.tmu.pmax = s.tmu.pmax ∧ t.tmu.correction = 0 ∧ t.tmu.overridden = false ∧ t.tmu.waitingLink = none ∧
    t.tmu.emitted = [] ∧ t.tmu.prior = s.tmu.lastBeat.map EmittedBeat.unmarked ∧
    t.tmu.prevMatched = none ∧ t.tmu.outliers = 0 ∧ t.tmu.misses = 0 ∧
    t.tmu.reacquire = 0 ∧ t.tmu.handover = none ∧ t.tmu.active = s.tmu.handover.getD s.tmu.active ∧
    t.holds .followLost = false

/-- `n` entries of origin RESOLUTION have closed: so many fewer are outstanding, and in PREPARING, where that brings the
count to zero, the show is ARMED; in any other show state, and with entries still outstanding, the SCU stays as it is
(R6, R7, R100). -/
def ResolutionsClosed (n : Nat) (s t : State) : Prop :=
  t.pdu.outstanding = s.pdu.outstanding - n ∧
    t.scu =
      if 1 ≤ n ∧ s.pdu.outstanding ≤ n ∧ s.scu.showState = .preparing then { s.scu with showState := .armed }
      else s.scu

/-- The entries of origin RESOLUTION in a list of entries. -/
def resolutionsIn (q : List Entry) : Nat := (q.filter fun e => e.origin == .resolution).length

/-- An entry may be sent to a station, by R86's conditions: QUEUED, with the station READY or SUSPECT, the land time at
most lead, delay and send window ahead, no entry of the layer on the bus, and in HOLD of origin RESOLUTION; or SENT and
due for resend (R89), which in HOLD, and once a HOLD entry found it open, no entry of origin CUE is (R90, R96). At the
time base's last value every due time is reached (R1). -/
def MayBeSent (s : State) (n : Nat) (e : Entry) : Prop :=
  (s.scu.showState = .hold → e.origin = .resolution) ∧
    (e.state = .queued ∧ ((s.station n).state = .ready ∨ (s.station n).state = .suspect) ∧
        (e.landTime ≤ s.now + ((s.station n).lead + (s.station n).delay + 100000) ∨ s.now = 281474976710655) ∧
        (∀ d ∈ s.queue n, d.state = .sent ∨ d.state = .acked → d.layer ≠ e.layer) ∨
      e.state = .sent ∧ e.resendDue = true ∧ e.held = false)

/-- A cue fires at a delivered place and pass (R72): a POSITION cue of the place's song whose firing point, its
own position less its lead counted within its segment, is the place, with no fired mark, or EVERY_PASS and a
mark of an earlier pass; or one due at start at the first event delivered with RUNNING since it was marked. -/
def firesNow (s : State) (d : Place) (pass : Nat) (e : CueEntry) : Bool :=
  match e.cue.kind with
  | .go _ => false
  | .position bar beat lead every =>
    let atPoint :=
      match (s.store.song d.song).bind fun g => g.segmentAt bar with
      | none => false
      | some x =>
        let f : Int := ((bar : Int) - x.firstBar) * x.meter + ((beat : Int) - 1) - lead
        decide (d.bar = x.firstBar + f.tdiv x.meter) && decide ((d.beat : Int) = f.tmod x.meter + 1)
    let free :=
      match e.fired with
      | none => true
      | some p => every && decide (p < pass)
    e.cue.song == d.song && ((atPoint && free) || (e.dueAtStart && s.cue.startDue))

/-- The blocks other than the Tempo Unit and the Link Unit are as they were. -/
def sameOthers (s t : State) : Prop :=
  t.now = s.now ∧ t.inReset = s.inReset ∧ t.scu = s.scu ∧ t.store = s.store ∧ t.cue = s.cue ∧
    t.pdu = s.pdu ∧ t.pbc = s.pbc ∧ t.clu = s.clu ∧ t.vu = s.vu ∧ t.freeIdx = s.freeIdx ∧
    t.pending = s.pending

/-- The store is unsealed as a write leaves it: no sealed CRC, check state GOOD, no background pass, READY
deasserted, STORE_UNSEALED true and STORE_CRC false (R189). -/
def Unsealed (t : State) : Prop :=
  t.store.sealedCrc = none ∧ t.store.mismatch = false ∧ t.store.passEnd = none ∧ t.store.ready = false ∧
    t.holds .storeUnsealed = true ∧ t.holds .storeCrc = false

/-- The seal record, the lock and the background check are as they were. -/
def sameSeal (s t : State) : Prop :=
  t.store.sealedCrc = s.store.sealedCrc ∧ t.store.mismatch = s.store.mismatch ∧
    t.store.lastFailing = s.store.lastFailing ∧ t.store.locked = s.store.locked ∧
    t.store.ready = s.store.ready ∧ t.store.passEnd = s.store.passEnd ∧ t.store.passes = s.store.passes ∧
    t.store.mismatches = s.store.mismatches

/-! ## Invariants -/

/-- The stop (R16, R153, R157, R166): the lamp and HOLD_ACTIVE are on exactly in HOLD, the stop set is empty
in every other show state, and the stop record's exit is none exactly in HOLD, where there is one. While a RESET_SHOW
is still being taken the show is DARK or HOLD, so that its response shows one of them (R194). -/
def StopInv (s : State) : Prop :=
  s.scu.lamp = decide (s.scu.showState = .hold) ∧ s.holds .holdActive = s.scu.lamp ∧
    (s.scu.showState ≠ .hold → s.scu.stopSet = default) ∧
    (s.scu.showState = .hold → ∃ r, s.scu.stopRecord = some r ∧ r.exit = none) ∧
    (s.scu.showState ≠ .hold → ∀ r, s.scu.stopRecord = some r → r.exit ≠ none) ∧
    (s.lku.resetOwed = true → s.scu.showState = .dark ∨ s.scu.showState = .hold)

/-- The seal (R189 to R191): READY is asserted exactly while the store is sealed and the check state is GOOD,
a background pass runs exactly while the store is sealed, an unsealed store has no MISMATCH, and
STORE_UNSEALED and STORE_CRC agree with the seal record. -/
def SealInv (s : State) : Prop :=
  s.store.ready = (s.store.sealedCrc.isSome && !s.store.mismatch) ∧
    s.store.passEnd.isSome = s.store.sealedCrc.isSome ∧
    (s.store.sealedCrc = none → s.store.mismatch = false) ∧
    s.holds .storeUnsealed = s.store.sealedCrc.isNone ∧ s.holds .storeCrc = s.store.mismatch

/-- Clicks in strictly ascending order of time. -/
def Lane.ascending (l : Lane) : Prop := l.schedule.Pairwise fun c d => c.time < d.time

/-- No two queued notices have one kind and subject. -/
def LinkRecord.distinctNotices (r : LinkRecord) : Prop :=
  r.notices.Pairwise fun m n => Notice.sameSubject m n = false

/-- The capacities and orders of the part's queues: 8 responses and 16 notices of distinct subjects on each link
(R171, R182), 16 reports (R112), 8 entries for each station in the queue order of R79, 24 clicks in ascending order
on each lane (R133), 8 panic entries (R148) and 16 entries in each capture log (R37). A RESET_SHOW still being taken
has room for its response (R176, R194). -/
def QueueInv (s : State) : Prop :=
  (∀ l, (s.lku.link l).responses.length ≤ 8 ∧ (s.lku.link l).notices.length ≤ 16 ∧
    (s.lku.link l).distinctNotices) ∧
  (s.lku.resetOwed = true → s.lku.rig.responses.length < 8) ∧
  s.pbc.reports.length ≤ 16 ∧ (∀ q ∈ s.pdu.queues, q.length ≤ 8 ∧ InQueueOrder q) ∧
  (∀ n ∈ s.clu.lanes, n.schedule.length ≤ 24 ∧ n.ascending) ∧ s.vu.panic.length ≤ 8 ∧
  s.tmu.lineA.log.length ≤ 16 ∧ s.tmu.lineB.log.length ≤ 16

/-- The dispatch tables (R79, R100): a queue and a set of counters for each of the 14 stations, each entry in its
station's queue, the balance of the counters with the queue, and the count of outstanding RESOLUTION entries. -/
def DispatchInv (s : State) : Prop :=
  s.pdu.queues.length = 14 ∧ s.pdu.closures.length = 14 ∧ (∀ n, ∀ e ∈ s.queue n, e.station = n) ∧
  (∀ n, 1 ≤ n → n ≤ 14 →
    let c := nth1 s.pdu.closures n
    c.created = BitVec.ofNat 32 (s.queue n).length + c.applied + c.failed + c.superseded + c.discarded) ∧
  s.pdu.outstanding = (s.pdu.queues.map fun q => (q.filter fun e => e.origin == .resolution).length).sum

/-- The store's tables (R19, R60): cue ids strictly ascending, and each song record under its own number. -/
def TableInv (s : State) : Prop :=
  (s.store.cues.map fun e => e.cue.id).Pairwise (· < ·) ∧
  ∀ n g, s.store.song n = some g → g.number = n

/-- The show time base is a 48-bit count (R1). -/
def TimeInv (s : State) : Prop := s.now ≤ timeMax

end Sys2Proof.Machine
end

