-- ==== Sys2Proof/WellFormed.lean ====
section
/-! DEFINITION. Which commands are well formed: operands that the lines, links and buses of the part can
show. -/

namespace Sys2Proof

namespace Machine

/-- A payload of one link frame (R184). -/
def framePayload (p : List Byte) : Bool := decide (p.length ≤ 240)

/-- A station address of the pit bus. -/
def stationOk (n : Nat) : Bool := decide (1 ≤ n) && decide (n ≤ 14)

/-- A lane number. -/
def laneOk (n : Nat) : Bool := decide (1 ≤ n) && decide (n ≤ 16)

/-- A feed number. -/
def feedOk (n : Nat) : Bool := decide (1 ≤ n) && decide (n ≤ 6)

/-- A value of `k` bytes. -/
def bytesOk (k n : Nat) : Bool := decide (n < 256 ^ k)

/-- A report whose fields fit its body (R185). -/
def reportOk : Report → Bool
  | .done layer patch => bytesOk 1 layer && bytesOk 2 patch
  | .fault layer patch => bytesOk 1 layer && bytesOk 2 patch
  | .panic player => bytesOk 1 player
  | .join lead => bytesOk 3 lead

/-- A part that the store image can have (R188). -/
def partOk : StorePart → Bool
  | .song n => decide (1 ≤ n) && decide (n ≤ 64)
  | .pattern n => decide (n ≤ 15)
  | .cueCount => true
  | .cue id => decide (1 ≤ id) && decide (id ≤ 9999)
  | .roster => true
  | .lane n => laneOk n
  | .feed n => feedOk n

end Machine

open Machine in
/-- A command that the part's lines can bring. -/
def Instr.wf : Instr → Bool
  | .unknownRequest _ code p => !(requestCodes.contains code.toNat) && framePayload p
  | .runFrame _ _ p => framePayload p
  | .entrySendable st rivals => stationOk st && rivals.all stationOk
  | .busFree rivals => rivals.all stationOk
  | .probeDue st rivals => stationOk st && rivals.all stationOk
  | .recoveryPollDue st rivals => stationOk st && rivals.all stationOk
  | .ack st tally => stationOk st && bytesOk 1 tally
  | .nak st tally => stationOk st && bytesOk 1 tally
  | .probeReply st tally t2 t3 t4 =>
    stationOk st && bytesOk 1 tally && bytesOk 4 t2 && bytesOk 4 t3 && decide (t4 ≤ timeMax)
  | .pollReply st tally r => stationOk st && bytesOk 1 tally && r.all reportOk
  | .attention st tally r => stationOk st && bytesOk 1 tally && reportOk r
  | .doneDeadline st => stationOk st
  | .clickSound n => laneOk n
  | .burstEnd n => laneOk n
  | .feedFrame n => feedOk n
  | .feedEcho n => feedOk n
  | .storageFault part _ _ => partOk part
  | i => (payloadOf i).all fun x => framePayload x.2

end Sys2Proof
end

