-- ==== Sys2Proof/Certificates/Slice0/Obligations.lean ====
section
/-! DEFINITION. The statements about the W361 for the provers, each over all states and operands that its
hypotheses admit; OBLIGATIONS.json says of each what it rests on. -/

open Sys2Proof Sys2Proof.Machine

/-! ## The machine -/

/-- A step takes the command at the front of the queue and runs it on the state with the queue's rest. With nothing
queued it runs one of the events that are due, drawing at most one free value; a next grid beat time that was set
at or before now is the TMU's next event (R2). With nothing due it is one microsecond of the show time base, which
stays at its last value (R1), and at a multiple of 125 µs the click output frame takes of each lane its burst's
level, bits 4-0, and accent, bits 6-5 (R134). The queue, its order, the choice among events and the tick are the
model's (log entries 1, 3 and 22), and so are the accent bits 0 of a lane with no burst (log entry 96). -/
def Obligations.StepTakesFrontCommandOrTicks : Prop :=
  (∀ (c : Instr) (q : List Instr) (s : State), step (s.withPending (c :: q)) = exec c (s.withPending q)) ∧
  (∀ s : State, s.pending = [] → dueEvents s = [] → s.inReset = false →
    step s = .next { s with
      now := if s.now + 1 ≤ timeMax then s.now + 1 else timeMax
      clu := { s.clu with
        frame :=
          if s.now % 125 = 0 then
            (List.range 16).map fun j =>
              match (s.lane (j + 1)).burst with
              | none => 0#8
              | some b => BitVec.ofNat 8 (b.level % 32 + 32 * (b.accent % 4))
          else s.clu.frame } }) ∧
  (∀ s : State, s.pending = [] → dueEvents s ≠ [] →
    ∃ c ∈ dueEvents s, ∃ n, (n = s.freeIdx ∨ n = s.freeIdx + 1) ∧ step s = exec c { s with freeIdx := n }) ∧
  ∀ s : State, s.inReset = false → s.now < timeMax → s.tmu.atOnce = true → s.tmu.tempo ≠ .idle →
    s.tmu.nextBeat = some s.now → s.tmu.hands = [] →
    .gridBeat ∈ dueEvents s ∧ .missCheck ∉ dueEvents s

/-- The part after power-on has the values of R193's table, as the chapters' rules give them. -/
def Obligations.StartUpHoldsTheTabledValues : Prop :=
  let s := State.reset
  s.now = 0 ∧ s.scu.showState = .dark ∧ s.scu.position.place = none ∧ s.scu.position.pass = 1 ∧
  s.scu.position.exitArmed = false ∧ s.scu.position.countBars = 0 ∧ s.scu.armed = none ∧
  s.scu.stopSet.isEmpty = true ∧ s.scu.stageClear = false ∧ s.scu.restart = none ∧
  s.scu.stopRecord = none ∧ s.scu.stageLine.level = false ∧ s.scu.podiumLine.level = false ∧
  s.scu.lamp = false ∧ s.scu.stageLine.since = none ∧ s.scu.podiumLine.since = none ∧
  s.tmu.settings = { depth := 2, window := 16, reseed := 3, gain := 1, cut := 4, debounce := 40000 } ∧
  s.store.patterns = List.replicate 16 { accents := List.replicate 12 0, sub := 0 } ∧
  s.store.laneBases = List.replicate 16
    { subdivision := 1, base := 0, follow := none, weak := 10, normal := 20, accent := 31 } ∧
  s.store.feedBases = List.replicate 6 { threshold := 66000, depth := 2 } ∧
  s.pdu.closures = List.replicate 14
    { created := 0, applied := 0, failed := 0, superseded := 0, discarded := 0, refused := 0, late := 0
      stray := 0 } ∧
  s.tmu.tempo = .idle ∧ s.tmu.p16 = 8000000 ∧ s.tmu.active = .a ∧ s.tmu.lineA.log = [] ∧
  s.tmu.lineB.log = [] ∧ s.tmu.nextBeat = none ∧ s.cue.goPointer = none ∧ s.cue.standby = none ∧
  s.pdu.queues = List.replicate 14 [] ∧ s.pdu.outstanding = 0 ∧ s.pdu.nextSeq = 0 ∧ s.pdu.resendLimit = 2 ∧
  (∀ r ∈ s.pbc.stations, r.state = .absent) ∧ s.pbc.stations.length = 14 ∧ s.store.roster = [] ∧
  s.pbc.reports = [] ∧ s.pbc.broadcastDue = true ∧
  (∀ l ∈ s.clu.lanes, l.muted = true ∧ l.override = none ∧ l.schedule = [] ∧ l.burst = none) ∧
  s.vu.camA.live = false ∧ s.vu.camA.seen = false ∧ s.vu.camB.live = false ∧ s.vu.camB.seen = false ∧
  (∀ f ∈ s.vu.feeds, f.source = .podium) ∧ s.vu.panic = [] ∧
  (∀ l, (s.lku.link l).recv = .hunt ∧ (s.lku.link l).responses = [] ∧ (s.lku.link l).notices = []) ∧
  s.lku.latched = Cond.storeUnsealed.bit ∧ s.lku.current = Cond.storeUnsealed.bit ∧
  s.store.songs = List.replicate 64 none ∧ s.store.cues = [] ∧ s.store.sealedCrc = none ∧
  s.store.locked = false ∧ s.store.ready = false

/-- A REBOOT from the Rig Link is answered OK by a response whose sending ends in the reboot. Power-on, the release
of the RESET pin and a REBOOT whose response has been sent put the whole part to its start-up state with show
time 0; what stays is outside the part or the model's own: the stop lines' pins, of which an active one is a
change pending from show time 0 (log entry 6), the queue of commands and the counter of free values. While the
RESET pin is held low READY and the STOP lamp are off, every click slot carries level 0, no feed carries a frame,
which is black, and nothing is sent; that the part stands at its start-up values meanwhile is log entry 9, and that the
accent bits of those slots are 0 log entry 96. The
command for the show time base's last value sets the time there from any value, which is the model's choice (log
entry 38) (R177, R193). -/
def Obligations.RestartsReachStartUp : Prop :=
  (∀ (p : List Byte) (s : State), Completes .rig 28 p [] s →
    exec (.reboot .rig p) s = .next (respond .rig 28 .ok [] true (taken .rig s))) ∧
  (∀ s : State,
    let line (r : LineRecord) : LineRecord :=
      { pin := r.pin, level := false, since := if r.pin then some 0 else none, glitches := 0 }
    let t : State :=
      { State.reset with
        scu := { State.reset.scu with
          stageLine := line s.scu.stageLine, podiumLine := line s.scu.podiumLine }
        freeIdx := s.freeIdx, pending := s.pending }
    exec .powerOn s = .next t ∧ exec .resetPin s = .next t ∧
      (s.inReset = false →
        (∃ l x, (s.lku.link l).tx = some x ∧ x.reboots = true ∧ x.endTime ≤ s.now) →
          exec .rebootTakesEffect s = .next t)) ∧
  (∀ s : State,
    (∃ t, exec .heldInReset s = .next t ∧ t.inReset = true ∧ t.store.ready = false ∧ t.scu.lamp = false ∧
      clickFrame t = List.replicate 16 0 ∧ t.clu.frame = List.replicate 16 0 ∧
      (∀ n, feedOutput t n = none) ∧ t.pbc.exchange = none ∧ (∀ l, (t.lku.link l).tx = none) ∧ t.pending = s.pending) ∧
    (s.inReset = false → exec .showTimeBaseSaturates s = .next { s with now := timeMax }))

/-- A part held in reset takes no command but power-on, the RESET pin's two levels and the level of a stop line's
pin (R193; that a command is passed over is the model's way to say so, log entry 9). No command and no step faults
or refuses. -/
def Obligations.EveryCommandGoesOnAndResetTakesNone : Prop :=
  (∀ (i : Instr) (s : State), s.inReset = true →
    i = .powerOn ∨ i = .resetPin ∨ i = .heldInReset ∨ (∃ l b, i = .lineChange l b) ∨ exec i s = .next s) ∧
  ((∀ (i : Instr) (s : State), ∃ t, exec i s = .next t) ∧ ∀ s : State, ∃ t, step s = .next t)

/-! ## Invariants -/

/-- Every step keeps the stop's invariant: lamp, HOLD_ACTIVE, stop set and stop record agree with HOLD; and while the
response of a RESET_SHOW is owed the show is DARK or HOLD, one of which it then shows (R194; when the response is formed
is log entry 23). -/
def Obligations.StepKeepsStopInvariant : Prop := ∀ s t : State, StopInv s → step s = .next t → StopInv t

/-- Every step keeps the seal's invariant: READY, the background pass and the two store conditions agree with
the seal record; and the store's tables in order: cue ids ascending, each song record under its own number. -/
def Obligations.StepKeepsSealInvariant : Prop :=
  (∀ s t : State, SealInv s → step s = .next t → SealInv t) ∧
  ∀ s t : State, TableInv s → step s = .next t → TableInv t

/-- Every step keeps the part's queues within their capacities, notices distinct by subject, clicks in ascending order
and each dispatch queue in order of land time and sequence (R79); and it keeps the balance of the dispatch counters with
the queues and the count of outstanding RESOLUTION entries, each entry standing in its station's queue. -/
def Obligations.StepKeepsQueueInvariant : Prop :=
  (∀ s t : State, QueueInv s → step s = .next t → QueueInv t) ∧
  ∀ s t : State, DispatchInv s → step s = .next t → DispatchInv t

/-- Every step keeps the show time base within 48 bits. Only power-on, the RESET pin, at its release or held low, and
a REBOOT that takes effect, each as the command at the front of the queue or the last as an event that is due, make it
smaller, to 0; that the part stands at show time 0 while the pin is held low is log entry 9 (R1, R177, R193). -/
def Obligations.StepKeepsTimeWithin48Bits : Prop :=
  ∀ s t : State, TimeInv s → step s = .next t →
    TimeInv t ∧ (s.now ≤ t.now ∨
      t.now = 0 ∧
        ((∃ c q, s.pending = c :: q ∧
          (c = .powerOn ∨ c = .resetPin ∨ c = .heldInReset ∨ c = .rebootTakesEffect)) ∨
        s.pending = [] ∧ .rebootTakesEffect ∈ dueEvents s))

/-- The part after power-on satisfies the six invariants. -/
def Obligations.InvariantsHoldAtReset : Prop :=
  StopInv State.reset ∧ SealInv State.reset ∧ QueueInv State.reset ∧ TimeInv State.reset ∧
    DispatchInv State.reset ∧ TableInv State.reset

/-! ## Link frames and the judging of requests -/

/-- The link frame that carries a well-formed request, from its SYNC byte to its CRC-8, is judged to bring
that request with all its payload (R172, R173, R184, R186). -/
def Obligations.LinkFrameBringsItsRequest : Prop :=
  ∀ i : Instr, i.wf = true → (codeOf i).isSome = true →
    ∃ l body, encodeRequest i = some (l, syncByte :: body) ∧ linkCommand l body = i

/-- A request from a link without the right to it is answered REFUSED_RIGHT and counted; its owner sees
nothing of it (R176 step 3, R178). -/
def Obligations.RequestWithoutRightIsRefused : Prop :=
  ∀ (i : Instr) (c : Nat) (l : Link) (p whole : List Byte) (s : State),
    codeOf i = some c → payloadOf i = some (l, p) → mayTake i l = false → Completes l c p whole s →
    exec i s = .next (answer l c .refusedRight []
      ((taken l s).onLink l fun r => { r with refusals := satInc r.refusals }))

/-- A request that finds 8 responses waiting is not taken: the overrun is counted and flagged, and nothing
else changes (R176 step 1). A bad frame is handled alike. The queue is not full while a RESET_SHOW still waits for
its response (the capacities' invariant). -/
def Obligations.FullResponseQueueOverruns : Prop :=
  ∀ (l : Link) (s : State), s.inReset = false → settled l s → 8 ≤ (s.lku.link l).responses.length →
    (s.lku.link l).run = none → (s.lku.link l).discarding = none →
    let t := s.onLink l fun r =>
      { r with recv := .hunt, overruns := satInc r.overruns, overrun := true }
    (∀ (i : Instr) (p : List Byte), (codeOf i).isSome = true → payloadOf i = some (l, p) →
      exec i s = .next t) ∧
    (∀ (code : Byte) (p : List Byte), requestCodes.contains code.toNat = false →
      exec (.unknownRequest l code p) s = .next t) ∧
    exec (.badFrame l) s = .next t

/-- A request whose payload has a length that R186 does not allow it is answered RANGE, and so is a code that names
no request (R176 steps 2 and 4, R186). That a cue entry is measured up to an action of an unknown kind, and that a
presence byte other than 0 and 1 has no length, is log entry 26. -/
def Obligations.UnknownCodeOrWrongLengthIsRange : Prop :=
  (∀ (i : Instr) (c : Nat) (l : Link) (p whole : List Byte) (s : State),
    lengthAllowed i whole = false → codeOf i = some c → payloadOf i = some (l, p) → mayTake i l = true →
    Completes l c p whole s → exec i s = .next (answer l c .range [] (taken l s))) ∧
  ∀ (l : Link) (code : Byte) (p whole : List Byte) (s : State),
    requestCodes.contains code.toNat = false → Completes l code.toNat p whole s →
    exec (.unknownRequest l code p) s = .next (answer l code.toNat .range [] (taken l s))

/-- A response is stamped with now, shows the show state as it stands, the conditions as the link sees them,
the latched set, E and W by the link's masks and force flags, and the overrun flag, and then clears the
link's captured conditions and overrun flag (R177, R181). -/
def Obligations.ResponseCarriesStatus : Prop :=
  ∀ (l : Link) (code : Nat) (result : Result) (data : List Byte) (s : State),
    let k := s.lku.link l
    let seen : Mask := s.lku.current ||| k.captured
    let r : Response :=
      { code := BitVec.ofNat 8 code, result := result
        e := k.forceE || (List.range 16).any fun n => k.eMask.getLsbD n && seen.getLsbD n
        w := k.forceW || (List.range 16).any fun n => k.wMask.getLsbD n && s.lku.latched.getLsbD n
        overrun := k.overrun, showState := s.scu.showState, current := seen, latched := s.lku.latched
        time := s.now, data := data, reboots := false }
    answer l code result data s = s.onLink l fun k =>
      { k with responses := k.responses ++ [r], captured := 0, overrun := false }

/-! ## Reads -/

/-- Each read that carries nothing is answered OK from any link in every show state, with the data its owner
lists. Each read of a key is answered OK with the data of that key, NOT_FOUND for a song or cue that is not
there, and RANGE for a key out of range. Neither changes anything else. The widths of the data's fields are those of
R184, R187 and R188 where those give one (R18, R28, R38, R58, R59, R63, R78, R101, R114, R123, R125, R137, R140, R152,
R168, R171, R191). The rest of the layout is the model's choice: log entry 8 for every read; 67, 78 and 85 for
READ_VIDEO, whose overlay masks take 2 bytes where R187's general width is 1; 73 for READ_STATION's unknown patches; 79
for READ_STATUS; 80 for READ_LANE's burst and 90 for its pattern in use in DARK and HOLD; 80 and 84 for READ_STOP; 92
for READ_SEAL's lock flag; 29 for the fields READ_SONG and READ_CUE send as 0. READ_SHOW's held-from is the stop
record's by log entry 42 and stands behind a presence byte by log entry 97, and a value that its bytes cannot hold is
sent modulo their range by log entry 95. -/
def Obligations.ReadsAnswerTheirData : Prop :=
  (∀ (l : Link) (p : List Byte) (s : State),
    let t := taken l s
    (Completes l 48 p [] s → exec (.readShow l p) s = .next (answer l 48 .ok (showData t) t)) ∧
    (Completes l 49 p [] s → exec (.readStop l p) s = .next (answer l 49 .ok (stopData t) t)) ∧
    (Completes l 52 p [] s → exec (.readStoreSpace l p) s = .next (answer l 52 .ok (spaceData t.store) t)) ∧
    (Completes l 54 p [] s → exec (.readCues l p) s = .next (answer l 54 .ok (cuesData t) t)) ∧
    (Completes l 55 p [] s → exec (.readRoster l p) s = .next (answer l 55 .ok (rosterData t.store) t)) ∧
    (Completes l 58 p [] s → exec (.readTempo l p) s = .next (answer l 58 .ok (tempoData t.tmu) t)) ∧
    (Completes l 59 p [] s →
      exec (.readEstimator l p) s = .next (answer l 59 .ok (estimatorData t.tmu.settings) t)) ∧
    (Completes l 63 p [] s → exec (.readBus l p) s = .next (answer l 63 .ok (busData t.pbc) t)) ∧
    (Completes l 65 p [] s → exec (.readLanes l p) s = .next (answer l 65 .ok (lanesData t) t)) ∧
    (Completes l 66 p [] s → exec (.readVideo l p) s = .next (answer l 66 .ok (videoData t) t)) ∧
    (Completes l 67 p [] s → exec (.readStatus l p) s = .next (answer l 67 .ok (statusData t.lku) t)) ∧
    (Completes l 68 p [] s → exec (.readSeal l p) s = .next (answer l 68 .ok (sealData t.store) t))) ∧
  ∀ (l : Link) (p : List Byte) (b b' : Byte) (s : State),
    let t := taken l s
    let n := b.toNat
    let id := b.toNat * 256 + b'.toNat
    let keyed (code lo hi : Nat) (data : List Byte) : State :=
      if lo ≤ n ∧ n ≤ hi then answer l code .ok data t else answer l code .range [] t
    (Completes l 50 p [b] s → exec (.readSong l p) s = .next
      (if 1 ≤ n ∧ n ≤ 64 then
        (match s.store.song n with
        | some g => answer l 50 .ok (songData g) t
        | none => answer l 50 .notFound [] t)
      else answer l 50 .range [] t)) ∧
    (Completes l 53 p [b, b'] s → exec (.readCue l p) s = .next
      (if 1 ≤ id ∧ id ≤ 9999 then
        (match s.store.cue id with
        | some e => answer l 53 .ok (cueData e) t
        | none => answer l 53 .notFound [] t)
      else answer l 53 .range [] t)) ∧
    (Completes l 51 p [b] s →
      exec (.readPattern l p) s = .next (keyed 51 0 15 (s.store.patterns.getD n default).bytes)) ∧
    (Completes l 56 p [b] s → exec (.readLaneBase l p) s = .next (keyed 56 1 16 (beLaneBase (s.laneBase n)))) ∧
    (Completes l 57 p [b] s → exec (.readFeedBase l p) s = .next (keyed 57 1 6 (s.feedBase n).bytes)) ∧
    (Completes l 60 p [b] s → exec (.readCaptureLog l p) s = .next
      (keyed 60 0 1 (captureData (if n = 0 then s.tmu.lineA else s.tmu.lineB)))) ∧
    (Completes l 61 p [b] s → exec (.readDispatch l p) s = .next (keyed 61 1 14 (dispatchData n s))) ∧
    (Completes l 62 p [b] s → exec (.readStation l p) s = .next (keyed 62 1 14 (stationData n s))) ∧
    (Completes l 64 p [b] s → exec (.readLane l p) s = .next (keyed 64 1 16 (laneData n s)))

/-! ## Settings and status -/

/-- SET_ESTIMATOR and SET_DISPATCH replace their settings when every value is in range, and otherwise are answered
RANGE with nothing changed. FORCE_E and FORCE_W turn their flag of the link on or off; SET_MASKS replaces the masks it
carries, or none when one names a condition outside 0-14 or a notice kind outside the ten. LOCK sets the lock flag in
every show state; UNLOCK clears it in DARK and HOLD and is refused with REFUSED_STATE in the others (R58, R89, R181,
R192). An on or off byte other than 0 and 1 is RANGE by log entry 27. -/
def Obligations.LiveSettingsAndLockAreSet : Prop :=
  ((∀ (p : List Byte) (d w rs k nc b3 b2 b1 b0 : Byte) (s : State),
    let deb := ((b3.toNat * 256 + b2.toNat) * 256 + b1.toNat) * 256 + b0.toNat
    Completes .rig 32 p [d, w, rs, k, nc, b3, b2, b1, b0] s →
    exec (.setEstimator .rig p) s = .next
      (if d.toNat ≤ 6 ∧ (4 ≤ w.toNat ∧ w.toNat ≤ 32) ∧ (2 ≤ rs.toNat ∧ rs.toNat ≤ 8) ∧ k.toNat ≤ 4 ∧
          (1 ≤ nc.toNat ∧ nc.toNat ≤ 16) ∧ 10000 ≤ deb ∧ deb ≤ 100000 then
        answer .rig 32 .ok [] ((taken .rig s).onTmu fun t =>
          { t with settings := ⟨d.toNat, w.toNat, rs.toNat, k.toNat, nc.toNat, deb⟩ })
      else answer .rig 32 .range [] (taken .rig s))) ∧
  ∀ (p : List Byte) (n : Byte) (s : State), Completes .rig 33 p [n] s →
    exec (.setDispatch .rig p) s = .next
      (if n.toNat ≤ 3 then
        answer .rig 33 .ok [] ((taken .rig s).onPdu fun d => { d with resendLimit := n.toNat })
      else answer .rig 33 .range [] (taken .rig s))) ∧
  (∀ (l : Link) (p : List Byte) (s : State),
    let t := taken l s
    let mask (m : Option Mask) : List Byte := beOpt (fun x : Mask => be 2 x.toNat) m
    (∀ b : Byte, Completes l 42 p [b] s → exec (.forceE l p) s = .next
      (if b = 1 then answer l 42 .ok [] (t.onLink l fun r => { r with forceE := true })
      else if b = 0 then answer l 42 .ok [] (t.onLink l fun r => { r with forceE := false })
      else answer l 42 .range [] t)) ∧
    (∀ b : Byte, Completes l 43 p [b] s → exec (.forceW l p) s = .next
      (if b = 1 then answer l 43 .ok [] (t.onLink l fun r => { r with forceW := true })
      else if b = 0 then answer l 43 .ok [] (t.onLink l fun r => { r with forceW := false })
      else answer l 43 .range [] t)) ∧
    (∀ e w n : Option Mask, Completes l 41 p (mask e ++ mask w ++ mask n) s →
      exec (.setMasks l p) s = .next
        (if e.all (fun m => !m.getLsbD 15) = true ∧ w.all (fun m => !m.getLsbD 15) = true ∧
            n.all (fun m => (List.range 16).all fun b => !m.getLsbD b || (1 ≤ b && b ≤ 10)) = true then
          answer l 41 .ok [] (t.onLink l fun r =>
            { r with eMask := e.getD r.eMask, wMask := w.getD r.wMask, noticeMask := n.getD r.noticeMask })
        else answer l 41 .range [] t))) ∧
  (∀ (p : List Byte) (s : State),
    (Completes .rig 25 p [] s → exec (.lock .rig p) s = .next
      (answer .rig 25 .ok [] ((taken .rig s).onStore fun st => { st with locked := true }))) ∧
    (Completes .rig 26 p [] s → exec (.unlock .rig p) s = .next
      (if s.scu.showState = .dark ∨ s.scu.showState = .hold then
        answer .rig 26 .ok [] ((taken .rig s).onStore fun st => { st with locked := false })
      else answer .rig 26 .refusedState [] (taken .rig s))))

/-- The probe filter depth is 3 after power-on, the RESET pin and a REBOOT, and RESET_SHOW keeps it. SET_PROBE from
the Rig Link sets it to 0-6 whatever the show state and the store's lock, a depth outside is RANGE, and the other
links have no right to it; nothing of the store changes with it. A good probe of a joined station whose offset is loaded
updates delay and offset by the depth in force, the whole difference with depth 0 (R120, R121, R122). The first good
probe, which loads both outright, is in JoiningStationIsMeasuredAndReady; a probe of a station no longer joined is log
entry 63. -/
def Obligations.ProbeDepthIsALiveSetting : Prop :=
  (∀ (s : State), (∃ t, exec .powerOn s = .next t ∧ t.pbc.probeDepth = 3) ∧
    (∃ t, exec .resetPin s = .next t ∧ t.pbc.probeDepth = 3) ∧
    (s.inReset = false → (∃ l x, (s.lku.link l).tx = some x ∧ x.reboots = true ∧ x.endTime ≤ s.now) →
      ∃ t, exec .rebootTakesEffect s = .next t ∧ t.pbc.probeDepth = 3) ∧
    ∀ (l : Link) (p : List Byte) (t : State), exec (.resetShow l p) s = .next t →
      t.pbc.probeDepth = s.pbc.probeDepth) ∧
  (∀ (p : List Byte) (n : Byte) (s : State), Completes .rig 34 p [n] s →
    exec (.setProbe .rig p) s = .next
      (if n.toNat ≤ 6 then
        answer .rig 34 .ok [] ((taken .rig s).onPbc fun b => { b with probeDepth := n.toNat })
      else answer .rig 34 .range [] (taken .rig s))) ∧
  (∀ (l : Link) (p whole : List Byte) (s : State), l ≠ .rig → Completes l 34 p whole s →
    exec (.setProbe l p) s = .next (answer l 34 .refusedRight []
      ((taken l s).onLink l fun r => { r with refusals := satInc r.refusals }))) ∧
  ∀ (s : State) (st tally t2 t3 t4 : Nat) (x : Exchange) (o : Int), s.inReset = false → 1 ≤ st → st ≤ 14 →
    s.pbc.stations.length = 14 → s.pbc.exchange = some x → x.station = st → x.frame = .probe →
    (s.station st).state.joined = true → (s.station st).offset = some o →
    let hold : Int := ((t3 : Int) - t2).bmod 4294967296
    let d : Int := (((t4 : Int) - x.sendTime) - hold).tdiv 2
    let sample : Int := ((t2 : Int) - x.sendTime - d).bmod 4294967296
    (t4 : Int) - x.sendTime ≤ 2000 → 0 ≤ hold → 0 ≤ d →
    ∃ t, exec (.probeReply st tally t2 t3 t4) s = .next t ∧
      (t.station st).delay =
        (((s.station st).delay : Int) +
          (d - (s.station st).delay).tdiv ((2 ^ s.pbc.probeDepth : Nat) : Int)).toNat ∧
      (t.station st).offset =
        some ((o + ((sample - o).bmod 4294967296).tdiv ((2 ^ s.pbc.probeDepth : Nat) : Int)).bmod 4294967296) ∧
      (s.pbc.probeDepth = 0 → (t.station st).delay = d.toNat ∧ (t.station st).offset = some sample) ∧
      (t.station st).goodTotal = (s.station st).goodTotal + 1 ∧ t.now = s.now

/-- CLEAR_STATUS, which carries nothing, is answered OK on each of the three links in every show state. A latched bit
stays exactly where its condition's current value is true on some link; else it is cleared. The response shows the
latched set as the clear left it, and its own link's captured conditions are cleared with it, so that a bit kept for
one of them alone is cleared by the next CLEAR_STATUS of any link. The W flag of a later response on each of the three
links is worked from that set. A raise of a condition before the clear, and one after it, each leave its bit latched
(R180). -/
def Obligations.ClearStatusClearsWhatNoLinkHolds : Prop :=
  ∀ (l : Link) (p : List Byte) (s : State), Completes l 40 p [] s →
    let captured (k : Link) (n : Nat) : Prop := (s.lku.link k).captured.getLsbD n = true
    let cleared := (taken l s).onLku fun k =>
      { k with
        latched := k.latched &&& (k.current ||| k.stage.captured ||| k.podium.captured ||| k.rig.captured) }
    let t := answer l 40 .ok [] cleared
    let raise (c : Cond) (x : Notice) (k : Link) (s : State) : State :=
      if c = .noticeLost then s.onLku fun q => q.notify x k
      else if c.isEvent = true then raiseEvent c s
      else setCondition c true s
    exec (.clearStatus l p) s = .next t ∧
    (∀ n, t.lku.latched.getLsbD n = true ↔
      s.lku.latched.getLsbD n = true ∧ (s.lku.current.getLsbD n = true ∨ ∃ k, captured k n)) ∧
    (∃ r, (t.lku.link l).responses = (s.lku.link l).responses ++ [r] ∧ r.code = 40 ∧ r.result = .ok ∧
      r.data = [] ∧ r.latched = t.lku.latched) ∧
    (t.lku.link l).captured = 0 ∧ (∀ k, k ≠ l → t.lku.link k = s.lku.link k) ∧
    (∀ (k : Link) (q : List Byte) (n : Nat), Completes k 40 q [] t → s.lku.current.getLsbD n = false →
      (∀ j, j ≠ l → ¬ captured j n) →
      ∃ u, exec (.clearStatus k q) t = .next u ∧ u.lku.latched.getLsbD n = false) ∧
    (∀ (k : Link) (code : Nat) (result : Result) (data : List Byte),
      ∃ r, ((answer k code result data t).lku.link k).responses = (t.lku.link k).responses ++ [r] ∧
        r.w = ((s.lku.link k).forceW ||
          (List.range 16).any fun n => (s.lku.link k).wMask.getLsbD n && t.lku.latched.getLsbD n)) ∧
    ∀ (c : Cond) (x : Notice) (k : Link), (c = .noticeLost → (s.lku.link k).drops x = true) →
      (c.isEvent = false → s.holds c = false) →
      (raise c x k t).lku.latched.getLsbD c.id = true ∧
      ∃ u, exec (.clearStatus l p) (raise c x k s) = .next u ∧ u.lku.latched.getLsbD c.id = true

/-- SET_LANE with a non-empty set of lanes, a mute byte or a trim in range sets each lane of the set: its
mute with source LIVE, a mute dropping its scheduled clicks; its trim, with the effective offset base + trim +
followed latency clamped to 0-80,000 µs. Other lanes and other blocks keep what they hold. The result is
CLAMPED when a lane of the set is clamped, else OK. An empty set, a bit of no lane, neither setting, or a trim
out of range is answered RANGE with nothing changed (R126, R127, R129). That bit 0 names no lane is log entry 30, and
that a follow feed above 6, which a storage fault alone leaves, adds no latency log entry 93. -/
def Obligations.SetLaneSetsTheLanesOfItsSet : Prop :=
  (∀ (l : Link) (p : List Byte) (m : Mask) (mute : Option Bool) (trim : Option Int) (s : State),
    (∀ x, trim = some x → -2147483648 ≤ x ∧ x < 2147483648) →
    (m = 0#16 ∨ m.getLsbD 0 = true ∨ (mute = none ∧ trim = none) ∨
      ∃ x, trim = some x ∧ (x < -10000 ∨ 10000 < x)) →
    Completes l 36 p (be 2 m.toNat ++ beOpt beBool mute ++ beOpt (beInt 4) trim) s →
    exec (.setLane l p) s = .next (answer l 36 .range [] (taken l s))) ∧
  ∀ (l : Link) (p : List Byte) (m : Mask) (mute : Option Bool) (trim : Option Int) (s : State),
    m ≠ 0#16 → m.getLsbD 0 = false → (mute.isSome = true ∨ trim.isSome = true) →
    (∀ t, trim = some t → -10000 ≤ t ∧ t ≤ 10000) → s.clu.lanes.length = 16 →
    Completes l 36 p (be 2 m.toNat ++ beOpt beBool mute ++ beOpt (beInt 4) trim) s →
    let sum (n : Nat) (x : Int) : Int := ((s.laneBase n).base : Int) + x +
      match (s.laneBase n).follow with
      | none => 0
      | some f => ((s.feed f).latency : Int)
    ∃ r t, exec (.setLane l p) s = .next t ∧ Answered l 36 r [] s t ∧
      (r = .clamped ↔ ∃ n, m.getLsbD n = true ∧ (t.lane n).clamped = true) ∧ (r = .ok ∨ r = .clamped) ∧
      (∀ n, 1 ≤ n → n ≤ 16 → m.getLsbD n = false → t.lane n = s.lane n) ∧
      (∀ n, 1 ≤ n → n ≤ 16 → m.getLsbD n = true →
        (∀ b, mute = some b → (t.lane n).muted = b ∧ (t.lane n).source = .live ∧
          (b = true → (t.lane n).schedule = [])) ∧
        (mute = none → (t.lane n).muted = (s.lane n).muted ∧ (t.lane n).source = (s.lane n).source) ∧
        (∀ x, trim = some x → (t.lane n).trim = x ∧
          (t.lane n).offset = (if sum n x < 0 then 0 else if 80000 < sum n x then 80000 else (sum n x).toNat) ∧
          (t.lane n).clamped = (decide (sum n x < 0) || decide (80000 < sum n x))) ∧
        (trim = none → (t.lane n).trim = (s.lane n).trim ∧ (t.lane n).offset = (s.lane n).offset)) ∧
      t.clu.hands = s.clu.hands ∧ t.scu = s.scu ∧ t.tmu = s.tmu ∧ t.store = s.store ∧ t.cue = s.cue ∧
      t.pdu = s.pdu ∧ t.pbc = s.pbc ∧ t.vu = s.vu ∧ t.now = s.now

/-- SET_FEED_MEASURE turns the measurement of each feed of its set on (from off: frame phase 0, loaded no) or
off (from on: the mark dropped), and SET_FEED sets the overlay mask and the source of each feed of its set:
the source in force drops a pending one, black or a LIVE camera already shown is taken at once, any other
becomes pending. Other feeds and blocks keep what they hold. A set that is empty or names no feed's bit is
answered RANGE with nothing changed (R141, R150, R151). That bit 0 names no feed is log entry 30. -/
def Obligations.FeedRequestsSetTheFeedsOfTheirSet : Prop :=
  (∀ (l : Link) (p : List Byte) (m : Mask) (s : State),
    (m = 0#16 ∨ ∃ b < 16, m.getLsbD b = true ∧ (b = 0 ∨ 6 < b)) →
    (∀ on : Bool, Completes .rig 35 p (be 2 m.toNat ++ beBool on) s →
      exec (.setFeedMeasure .rig p) s = .next (answer .rig 35 .range [] (taken .rig s))) ∧
    ∀ (src : Option FeedSource) (overlay : Option Mask),
      Completes l 37 p (be 2 m.toNat ++ beOpt (fun x : FeedSource => be 1 x.code) src ++
        beOpt (fun x : Mask => be 2 x.toNat) overlay) s →
      exec (.setFeed l p) s = .next (answer l 37 .range [] (taken l s))) ∧
  ∀ (p : List Byte) (m : Mask) (s : State), m ≠ 0#16 →
    (∀ b < 16, m.getLsbD b = true → 1 ≤ b ∧ b ≤ 6) → s.vu.feeds.length = 6 →
    (∀ on : Bool, Completes .rig 35 p (be 2 m.toNat ++ beBool on) s →
      ∃ t, exec (.setFeedMeasure .rig p) s = .next t ∧ Answered .rig 35 .ok [] s t ∧
        (∀ n, 1 ≤ n → n ≤ 6 → t.feed n =
          if m.getLsbD n = true ∧ (s.feed n).measure ≠ on then
            (if on then { s.feed n with measure := true, phase := 0, loaded := false }
            else { s.feed n with measure := false, mark := none })
          else s.feed n) ∧
        t.scu = s.scu ∧ t.tmu = s.tmu ∧ t.store = s.store ∧ t.cue = s.cue ∧ t.pdu = s.pdu ∧ t.pbc = s.pbc ∧
        t.clu = s.clu ∧ { t.vu with feeds := s.vu.feeds } = s.vu ∧ t.now = s.now) ∧
    (∀ (l : Link) (src : Option FeedSource) (overlay : Option Mask),
      (src.isSome = true ∨ overlay.isSome = true) →
      (∀ o, overlay = some o → ∀ b < 16, o.getLsbD b = true → b ≤ 4) →
      Completes l 37 p (be 2 m.toNat ++ beOpt (fun x : FeedSource => be 1 x.code) src ++
        beOpt (fun x : Mask => be 2 x.toNat) overlay) s →
      ∃ t, exec (.setFeed l p) s = .next t ∧ Answered l 37 .ok [] s t ∧
        (∀ n, 1 ≤ n → n ≤ 6 →
          let f := { s.feed n with overlay := overlay.getD (s.feed n).overlay }
          t.feed n =
            if m.getLsbD n = true then
              (match src with
              | none => f
              | some x =>
                if x = f.source then { f with pending := none }
                else
                  let dest : Showing := match x with
                    | .podium => .cam s.tmu.active
                    | .camA => .cam .a
                    | .camB => .cam .b
                    | .black => .black
                  let shown : Bool := match dest with
                    | .cam .a => s.vu.camA.live
                    | .cam .b => s.vu.camB.live
                    | .black => true
                  if dest = f.showing ∧ shown = true then { f with source := x, pending := none }
                  else { f with pending := some x })
            else s.feed n) ∧
        t.scu = s.scu ∧ t.tmu = s.tmu ∧ t.store = s.store ∧ t.cue = s.cue ∧ t.pdu = s.pdu ∧ t.pbc = s.pbc ∧
        t.clu = s.clu ∧ { t.vu with feeds := s.vu.feeds } = s.vu ∧ t.now = s.now)

/-! ## Cues -/

/-- GO without an id runs the pointer cue; with one, the pointer cue, or a GO cue of the position's song above the
pointer, the GO cues from the pointer up to it being skipped. The pointer moves to the GO cue of its song with the
next higher id, the cue's fired mark takes the pass and its due-at-start mark goes, the standby cue ends if it is
that cue, and the GO-run, skipped and actions counters count; the table keeps everything else. In DARK, PREPARING
and HOLD it is refused with REFUSED_STATE, an id out of 1-9999 is RANGE, and one that resolves to no cue NOT_FOUND
(R65, R66, R68). A cue of one PATCH action hands its change to the PDU with the land of R83: refused for an ABSENT or
CUT station or a full queue, taking the place of the one QUEUED entry of its layer and land, or created; queue order
and the station's counters follow (R69, R79, R81 to R83). That a NEXT_DOWNBEAT entry returned by a rejoin after its own
downbeat is of that land too is the model's choice (log entry 86), and so is a negative m - b, which a storage fault
alone leaves, counting as 0 (log entry 93). -/
def Obligations.GoRunsTheCueItResolvesTo : Prop :=
  ∀ (p : List Byte) (id : Option (BitVec 16)) (s : State),
    Completes .stage 1 p (beOpt (fun x : BitVec 16 => be 2 x.toNat) id) s →
    ((s.scu.showState = .dark ∨ s.scu.showState = .preparing ∨ s.scu.showState = .hold) →
      exec (.go .stage p) s = .next (answer .stage 1 .refusedState [] (taken .stage s))) ∧
    ((s.scu.showState = .armed ∨ s.scu.showState = .countIn ∨ s.scu.showState = .running) →
      (∃ x, id = some x ∧ (x.toNat = 0 ∨ 9999 < x.toNat)) →
      exec (.go .stage p) s = .next (answer .stage 1 .range [] (taken .stage s))) ∧
    ((s.scu.showState = .armed ∨ s.scu.showState = .countIn ∨ s.scu.showState = .running) →
      (∀ x, id = some x → 1 ≤ x.toNat ∧ x.toNat ≤ 9999) →
      let target (e : CueEntry) : Prop := ∃ g, s.cue.goPointer = some g ∧
        (id = none ∧ s.store.cue g = some e ∨
          ∃ x, id = some x ∧ s.store.cue x.toNat = some e ∧
            (x.toNat = g ∨ g < x.toNat ∧ (∃ bar, e.cue.kind = .go bar) ∧
              s.scu.position.place.map Place.song = some e.cue.song))
      let isSkipped (e : CueEntry) (x : CueEntry) : Bool := s.cue.goPointer.any fun g =>
        x.cue.isGo && x.cue.song == e.cue.song && decide (g ≤ x.cue.id) && decide (x.cue.id < e.cue.id)
      ((∀ e ∈ s.store.cues, ¬ target e) →
        exec (.go .stage p) s = .next (answer .stage 1 .notFound [] (taken .stage s))) ∧
      ∀ e, e ∈ s.store.cues → target e →
        ∃ t, exec (.go .stage p) s = .next t ∧ Answered .stage 1 .ok [] s t ∧
          t.cue.goPointer = s.store.firstGo e.cue.song (fun c => decide (e.cue.id < c.id)) ∧
          t.store.cues = s.store.cues.map (fun x =>
            if x.cue.id = e.cue.id then { x with fired := some s.scu.position.pass, dueAtStart := false }
            else x) ∧
          { t.store with cues := s.store.cues } = s.store ∧
          t.cue.standby = (if s.cue.standby = some e.cue.id then none else s.cue.standby) ∧
          t.cue.goRun = s.cue.goRun + 1 ∧ t.cue.fired = s.cue.fired ∧
          t.cue.skipped = s.cue.skipped + BitVec.ofNat 32 (s.store.cues.filter (isSkipped e)).length ∧
          t.cue.actions = s.cue.actions + BitVec.ofNat 32 e.cue.actions.length ∧
          t.scu.showState = s.scu.showState ∧ t.pbc = s.pbc ∧ t.now = s.now ∧
          ∀ st layer patch land x d, e.cue.actions = [.patch st layer patch land] → 1 ≤ st → st ≤ 14 →
            s.pdu.queues.length = 14 → s.pdu.closures.length = 14 → (∀ a ∈ s.queue st, a.station = st) →
            s.segment = some x → s.scu.position.place = some d →
            let q := s.queue st
            let c := nth1 s.pdu.closures st
            let form := (landAtGo s x d land).1
            let fresh : Entry :=
              { station := st, layer := layer, patch := patch, origin := .cue, form := form, landPlace := none
                landTime := (landAtGo s x d land).2, seq := s.pdu.nextSeq }
            let gone := (s.station st).state = .absent ∨ (s.station st).state = .cut
            let matched (a : Entry) : Prop := a.state = .queued ∧ a.layer = layer ∧ a.form = form ∧
              (form = .time → a.landTime = fresh.landTime)
            let refused := t.queue st = q ∧ nth1 t.pdu.closures st = { c with refused := c.refused + 1 } ∧
              t.pdu.nextSeq = s.pdu.nextSeq ∧ t.pdu.outstanding = s.pdu.outstanding ∧
              t.lku.latched.getLsbD 5 = true
            (gone → refused) ∧
            (¬ gone → ∀ before old after, q = before ++ old :: after → matched old →
              (∀ a ∈ before ++ after, ¬ matched a) →
              (t.queue st).Perm ({ fresh with seq := old.seq } :: (before ++ after)) ∧ InQueueOrder (t.queue st) ∧
              nth1 t.pdu.closures st = { c with superseded := c.superseded + 1, created := c.created + 1 } ∧
              t.pdu.nextSeq = s.pdu.nextSeq ∧ t.pdu.outstanding =
                (if old.origin = .resolution then s.pdu.outstanding - 1 else s.pdu.outstanding)) ∧
            (¬ gone → (∀ a ∈ q, ¬ matched a) →
              (8 ≤ q.length → refused) ∧
              (q.length < 8 → (t.queue st).Perm (fresh :: q) ∧ (InQueueOrder q → InQueueOrder (t.queue st)) ∧
                nth1 t.pdu.closures st = { c with created := c.created + 1 } ∧
                t.pdu.nextSeq = s.pdu.nextSeq + 1 ∧ t.pdu.outstanding = s.pdu.outstanding)) ∧
            ∀ n, 1 ≤ n → n ≤ 14 → n ≠ st → t.queue n = s.queue n)

/-- STANDBY sets the standby cue, at the CUE and at the VU, to a cue of the table, or to none when it carries no
id, in every show state; an id out of 1-9999 is RANGE and one not in the table NOT_FOUND. VAMP_EXIT arms the exit in
RUNNING within a vamp segment; in RUNNING elsewhere and in COUNT_IN it is IGNORED, and in the other states
refused with REFUSED_STATE, with nothing changed (R34, R67). -/
def Obligations.StandbyAndVampExitSetTheirMark : Prop :=
  (∀ (p : List Byte) (id : Option (BitVec 16)) (s : State),
    Completes .stage 2 p (beOpt (fun x : BitVec 16 => be 2 x.toNat) id) s →
    let t := taken .stage s
    let set (c : Option Nat) : State :=
      { t with cue := { t.cue with standby := c }, vu := { t.vu with standby := c } }
    exec (.standby .stage p) s = .next
      (match id with
      | none => answer .stage 2 .ok [] (set none)
      | some x =>
        if 1 ≤ x.toNat ∧ x.toNat ≤ 9999 then
          (if (s.store.cue x.toNat).isSome then answer .stage 2 .ok [] (set (some x.toNat))
          else answer .stage 2 .notFound [] t)
        else answer .stage 2 .range [] t)) ∧
  (∀ (p : List Byte) (s : State), Completes .podium 8 p [] s →
    let t := taken .podium s
    exec (.vampExit .podium p) s = .next
      (if s.scu.showState = .running ∧ s.segment.map Segment.vamp = some true then
        answer .podium 8 .ok [] { t with
          scu := { t.scu with position := { t.scu.position with exitArmed := true } } }
      else if s.scu.showState = .running ∨ s.scu.showState = .countIn then
        answer .podium 8 .ignored [] t
      else answer .podium 8 .refusedState [] t))

/-! ## The show -/

/-- ARM of a song and bar that are in the store, in DARK or ARMED, sets the armed position and the position
record, clears the restart point and every pattern override, and resolves for the bar. With no hand-over waiting at
the CUE and the PDU, each pair that needs a change to its target patch is handed: counted, refused for an ABSENT or
CUT station, and for a joined one with an empty queue one QUEUED entry of origin RESOLUTION and land NOW; no other
entry is made. Marks of the song's cues are set, other songs' marks kept, and the pointer placed. From tables that
are in order the show is PREPARING with entries outstanding or ARMED with none, the count being that of the
RESOLUTION entries in the queues. The response of a RESET_SHOW still being taken is formed first. In another show
state ARM is refused with REFUSED_STATE, and a song or bar that is not there is answered NOT_FOUND (R5, R7, R75 to R77,
R81, R100, R128, R194). That a cue at the target takes R77's mark is log entry 81, and that ARM forms the owed response
is log entry 23; a meter of 0, which a storage fault alone leaves, divides by log entry 93, by which a pair of a station
outside 1-14 or a layer above 7 is passed over too. -/
def Obligations.ArmSetsThePositionAndResolves : Prop :=
  ∀ (l : Link) (p : List Byte) (song : Byte) (bar : Option (BitVec 16)) (s : State),
    (l = .stage ∨ l = .podium) →
    Completes l 4 p (song :: beOpt (fun x : BitVec 16 => be 2 x.toNat) bar) s →
    let n := song.toNat
    let b := (bar.map BitVec.toNat).getD 1
    (s.scu.showState ≠ .dark → s.scu.showState ≠ .armed →
      exec (.arm l p) s = .next (answer l 4 .refusedState [] (taken l s))) ∧
    ((s.scu.showState = .dark ∨ s.scu.showState = .armed) →
      ((s.store.song n = none ∨ ∃ g, s.store.song n = some g ∧ (b < 1 ∨ g.lastBar < b)) →
        exec (.arm l p) s = .next (answer l 4 .notFound [] (taken l s))) ∧
      ∀ g, s.store.song n = some g → 1 ≤ b → b ≤ g.lastBar →
        ∃ t, exec (.arm l p) s = .next t ∧ Answered l 4 .ok [] s t ∧
          t.scu.armed = some (n, b) ∧ t.scu.restart = none ∧
          t.scu.position =
            { place := some ⟨n, b, 1, (g.segmentIndex b).getD 0⟩, pass := 1, exitArmed := false
              countBars := 0 } ∧
          (DispatchInv s → DispatchInv t ∧
            (t.scu.showState = .preparing ∧ t.pdu.outstanding ≠ 0 ∨
              t.scu.showState = .armed ∧ t.pdu.outstanding = 0)) ∧
          t.cue.goPointer = s.store.firstGo n (fun c => decide (b < c.place.1)) ∧
          (∀ x ∈ t.clu.lanes, x.override = none) ∧
          t.scu.stopSet = s.scu.stopSet ∧ t.scu.stopRecord = s.scu.stopRecord ∧
          { t.store with cues := s.store.cues } = s.store ∧ t.pbc = s.pbc ∧ t.now = s.now ∧
          (s.lku.resetOwed = false → t.tmu = s.tmu) ∧
          (s.lku.resetOwed = true → t.lku.resetOwed = false ∧ ∃ r,
            t.lku.rig.responses = s.lku.rig.responses ++ [r] ∧ r.code = 27 ∧ r.result = .ok ∧
            r.showState = s.scu.showState) ∧
          (DispatchInv s → TableInv s → s.cue.hands = [] → s.pdu.hands = [] →
            (∃ pairs : List (Nat × Nat), pairs.Nodup ∧
              (∀ x, x ∈ pairs ↔ (1 ≤ x.1 ∧ x.1 ≤ 14) ∧ x.2 < 8 ∧ ∃ patch, NeedsChange s n b x.1 x.2 patch) ∧
              t.scu.changesHanded = pairs.length ∧ t.cue.changesHanded = pairs.length) ∧
            (∀ st, 1 ≤ st → st ≤ 14 →
              ((s.station st).state = .absent ∨ (s.station st).state = .cut → t.queue st = s.queue st) ∧
              ((s.station st).state.joined = true → s.queue st = [] →
                (∀ e ∈ t.queue st, e.station = st ∧ e.layer < 8 ∧ NeedsChange s n b st e.layer e.patch ∧
                  e.origin = .resolution ∧ e.form = .now ∧ e.landTime = s.now ∧ e.state = .queued ∧
                  e.resends = 0 ∧ e.late = false ∧ e.cancelPending = false) ∧
                (∀ layer < 8, ∀ patch, NeedsChange s n b st layer patch →
                  ∃ e ∈ t.queue st, e.layer = layer ∧ e.patch = patch) ∧
                (t.queue st).Pairwise (fun d e => d.layer ≠ e.layer) ∧ InQueueOrder (t.queue st))) ∧
            t.store.cues.length = s.store.cues.length ∧
            ∀ (j : Nat) (e : CueEntry), s.store.cues[j]? = some e → ∃ e', t.store.cues[j]? = some e' ∧
              e'.cue = e.cue ∧ (e.cue.song ≠ n → e' = e) ∧
              (e.cue.song = n →
                (atOrBefore e.cue.place (b, 1) → e'.fired = some 1 ∧ e'.dueAtStart = false) ∧
                (¬ atOrBefore e.cue.place (b, 1) → e'.fired = none ∧
                  ∀ bar beat lead every x, e.cue.kind = .position bar beat lead every →
                    g.segmentAt bar = some x →
                    let f : Int := ((bar : Int) - x.firstBar) * x.meter + ((beat : Int) - 1) - lead
                    e'.dueAtStart = decide ((x.firstBar : Int) + f.tdiv x.meter < b)))))

/-- COUNT in ARMED starts the grid: the start time as given when it lies 50,000 to 10,000,000 µs ahead and
otherwise 50,000 µs ahead with CLAMPED, grid beat index 0, the armed segment's bounds, and the count period of
the restart tempo, the segment's fixed period or the period held, clamped to the bounds. With count-in bars
the show is COUNT_IN at bar -n in FIXED; without, RUNNING in the segment's mode. At entry to TRACKING the start beat is
open, and the last beat of the earlier grid is opened with a miss check half a period after it, where that is still to
come; else no beat keeps a mark (R9 to R13, R48). That the earlier grid's last beat is R48's last emitted beat is log
entry 70, and that a start time past the time base's last value stands as it is log entry 62. -/
def Obligations.CountStartsTheGrid : Prop :=
  ∀ (p : List Byte) (given : Option (BitVec 48)) (s : State),
    Completes .podium 6 p (beOpt (fun x : BitVec 48 => be 6 x.toNat) given) s →
    (s.scu.showState ≠ .armed →
      exec (.count .podium p) s = .next (answer .podium 6 .refusedState [] (taken .podium s))) ∧
    ∀ (song bar : Nat) (g : Song) (x : Segment), s.scu.showState = .armed →
      s.scu.armed = some (song, bar) → s.store.song song = some g → s.segment = some x → x.valid = true →
      let used := match given with
        | none => (s.now + 50000, Result.clamped)
        | some t =>
          if s.now + 50000 ≤ t.toNat ∧ t.toNat ≤ s.now + 10000000 then (t.toNat, .ok)
          else (s.now + 50000, .clamped)
      let wanted := match s.scu.restart.bind Restart.tempo with
        | some bpm => 60000000 / bpm
        | none => x.fixed.getD s.tmu.period
      let period := if wanted < x.pmin then x.pmin else if x.pmax < wanted then x.pmax else wanted
      s.tmu.hands = [] →
      ∃ t, exec (.count .podium p) s = .next t ∧ Answered .podium 6 used.2 [] s t ∧
        t.tmu.nextBeat = some used.1 ∧ t.tmu.beatIndex = 0 ∧ t.tmu.emitted = [] ∧ t.tmu.pmin = x.pmin ∧
        (s.now < timeMax → t.tmu.prior = s.tmu.lastBeat.map fun b =>
          if g.countIn = 0 ∧ x.fixed = none ∧ s.now < b.time + period / 2 then
            { b with mark := some .opened, check := some (b.time + period / 2) }
          else { b with mark := none, check := none }) ∧
        t.tmu.pendingMark = (if g.countIn = 0 ∧ x.fixed = none then some .opened else none) ∧
        t.tmu.pmax = x.pmax ∧ t.scu.restart = none ∧ t.scu.armed = s.scu.armed ∧
        (g.countIn = 0 → t.scu.showState = .running ∧ t.scu.position = s.scu.position ∧
          (∀ pf, x.fixed = some pf → t.tmu.tempo = .fixed ∧ t.tmu.p16 = 16 * pf) ∧
          (x.fixed = none → t.tmu.tempo = .tracking ∧ t.tmu.p16 = 16 * period)) ∧
        (g.countIn ≠ 0 → t.scu.showState = .countIn ∧ t.scu.position.countBars = g.countIn ∧
          t.scu.position.place =
            (s.scu.position.place.map fun d => { d with bar := -(g.countIn : Int), beat := 1 }) ∧
          t.scu.position.pass = s.scu.position.pass ∧ t.tmu.tempo = .fixed ∧ t.tmu.p16 = 16 * period) ∧
        t.store = s.store ∧ t.cue = s.cue ∧ t.pdu = s.pdu ∧ t.pbc = s.pbc ∧ t.clu = s.clu ∧ t.vu = s.vu ∧
        t.now = s.now

/-- RESET_SHOW in DARK or HOLD sets DARK with no song, an empty stop set, no stage-clear, no restart point and no
armed position, and hands the reset to the TMU, CUE, PDU and VU; out of HOLD it ends the banner, lamp and HOLD_ACTIVE
and records the exit. Store, stations and lanes stay, and the link records keep their masks, their responses and the
notices of other kinds; its response is owed until the four blocks have taken the reset, when it is formed (the
statement on hand-overs; log entry 23). That the VU, reached for the banner's end, first takes what waits for it is
log entry 11. A stop line held active, the other not, enters HOLD again from DARK with the line's origin,
and hands that entry on. In the other show states it is refused with REFUSED_STATE (R3, R153, R157, R170, R194). -/
def Obligations.ResetShowClearsTheShow : Prop :=
  ∀ (p : List Byte) (s : State), Completes .rig 27 p [] s →
    (s.scu.showState ≠ .dark → s.scu.showState ≠ .hold →
      exec (.resetShow .rig p) s = .next (answer .rig 27 .refusedState [] (taken .rig s))) ∧
    ((s.scu.showState = .dark ∨ s.scu.showState = .hold) → StopInv s →
      let owed (t : State) : Prop := t.lku.resetOwed = true ∧ t.lku.rig.responses = s.lku.rig.responses ∧
        t.lku.rig.requests = s.lku.rig.requests + 1 ∧ t.lku.rig.recv = .hunt ∧ t.lku.rig.run = none ∧
        t.lku.rig.discarding = none ∧ ∀ l, let k := t.lku.link l; let k' := s.lku.link l
          k.responses = k'.responses ∧ k.eMask = k'.eMask ∧ k.wMask = k'.wMask ∧ k.noticeMask = k'.noticeMask ∧
          k.forceE = k'.forceE ∧ k.forceW = k'.forceW ∧
          (l ≠ .rig → k.run = k'.run ∧ k.discarding = k'.discarding ∧ k.recv = k'.recv) ∧
          ∀ m ∈ k'.notices, m.body.kind ≠ 1 → m.body.kind ≠ 2 → m.body.kind ≠ 10 → m ∈ k.notices
      let kept (t : State) : Prop := { t.tmu with hands := s.tmu.hands } = s.tmu ∧
        { t.cue with hands := s.cue.hands } = s.cue ∧ { t.pdu with hands := s.pdu.hands } = s.pdu ∧
        t.store = s.store ∧ t.pbc = s.pbc ∧ t.scu.position = default ∧ t.scu.armed = none ∧
        t.scu.restart = none ∧ t.scu.stageClear = false ∧ t.scu.stageLine = s.scu.stageLine ∧
        t.scu.podiumLine = s.scu.podiumLine ∧ t.vu.camA = s.vu.camA ∧ t.vu.camB = s.vu.camB ∧
        t.vu.feeds = s.vu.feeds ∧ t.vu.standby = s.vu.standby ∧ t.now = s.now
      (s.scu.stageLine.level = false → s.scu.podiumLine.level = false →
        ∃ t, exec (.resetShow .rig p) s = .next t ∧ owed t ∧ kept t ∧
          t.scu.showState = .dark ∧ t.scu.stopSet = default ∧ t.scu.lamp = false ∧
          t.holds .holdActive = false ∧ t.scu.stopId = s.scu.stopId ∧ t.clu = s.clu ∧
          handed .showReset s.tmu.hands t.tmu.hands ∧ handed .showReset s.cue.hands t.cue.hands ∧
          handed .showReset s.pdu.hands t.pdu.hands ∧
          (s.scu.showState = .hold → (∃ r, t.scu.stopRecord = some r ∧ r.exit = some (.resetShow, s.now)) ∧
            t.vu.banner = none ∧ t.vu.hands = [.showReset] ∧
            (s.vu.hands = [] → t.vu = { s.vu with banner := none, hands := [.showReset] })) ∧
          (s.scu.showState = .dark → t.vu = { s.vu with hands := s.vu.hands ++ [.showReset] } ∧
            t.lku = { (taken .rig s).lku with resetOwed := true })) ∧
      ∀ l : StopLine, (s.scu.line l).level = true → (∀ k, k ≠ l → (s.scu.line k).level = false) →
        let o := lineOrigin l
        let id := if 255 ≤ s.scu.stopId then 1 else s.scu.stopId + 1
        ∃ t, exec (.resetShow .rig p) s = .next t ∧ owed t ∧ kept t ∧
          t.scu.showState = .hold ∧ t.scu.stopSet = ({} : StopSet).put o true ∧ t.scu.lamp = true ∧
          t.holds .holdActive = true ∧ t.scu.stopId = id ∧
          t.scu.stopRecord = some ⟨id, o, .dark, s.now, default, .dark, none⟩ ∧
          t.tmu.hands = s.tmu.hands ++ [.showReset, .hold id o] ∧
          t.cue.hands = s.cue.hands ++ [.showReset, .hold id o] ∧
          t.pdu.hands = s.pdu.hands ++ [.showReset, .hold id o] ∧
          t.clu = { s.clu with hands := s.clu.hands ++ [.hold id o] })

/-! ## The stop -/

/-- STOP in a show state other than HOLD adds its origin and enters HOLD: the held-from state, the next stop id,
the stop record, no stage-clear, no restart point, the lamp and HOLD_ACTIVE on, and the entry handed to the TMU,
CLU, PDU, CUE and VU; position and armed position stay, the count bars of a COUNT_IN too by the model's choice (log
entry 51). In HOLD an origin not in the stop set is added,
stage-clear becomes no and the restart point none; one already in it changes nothing and is IGNORED. The Rig
Link has no right to STOP, and a payload that is not empty is RANGE (R155 to R158). -/
def Obligations.StopEntersHoldOrAddsItsOrigin : Prop :=
  (∀ (l : Link) (p whole : List Byte) (s : State), Completes l 5 p whole s →
    (l = .rig → exec (.stop .rig p) s = .next (answer .rig 5 .refusedRight []
      ((taken .rig s).onLink .rig fun r => { r with refusals := satInc r.refusals }))) ∧
    (l ≠ .rig → whole ≠ [] → exec (.stop l p) s = .next (answer l 5 .range [] (taken l s)))) ∧
  (∀ (l : Link) (p : List Byte) (s : State), Completes l 5 p [] s → s.scu.showState ≠ .hold →
    ∀ o : Origin, (l = .stage ∧ o = .stageLink ∨ l = .podium ∧ o = .podiumLink) →
    let id := if 255 ≤ s.scu.stopId then 1 else s.scu.stopId + 1
    ∃ t, exec (.stop l p) s = .next t ∧ Answered l 5 .ok [] s t ∧
      t.scu.showState = .hold ∧ t.scu.stopSet = s.scu.stopSet.put o true ∧ t.scu.stopId = id ∧
      t.scu.stopRecord = some ⟨id, o, if s.scu.showState = .dark then .dark else .song, s.now,
        s.scu.position, s.scu.showState, none⟩ ∧
      t.scu.stageClear = false ∧ t.scu.restart = none ∧ t.scu.position = s.scu.position ∧
      t.scu.armed = s.scu.armed ∧ t.scu.lamp = true ∧ t.holds .holdActive = true ∧
      t.scu.holdEntries = s.scu.holdEntries + 1 ∧
      t.scu.stageLinkStops = (if o = .stageLink then satInc s.scu.stageLinkStops else s.scu.stageLinkStops) ∧
      t.scu.podiumLinkStops =
        (if o = .podiumLink then satInc s.scu.podiumLinkStops else s.scu.podiumLinkStops) ∧
      t.tmu = { s.tmu with hands := s.tmu.hands ++ [.hold id o] } ∧
      t.clu = { s.clu with hands := s.clu.hands ++ [.hold id o] } ∧
      t.pdu = { s.pdu with hands := s.pdu.hands ++ [.hold id o] } ∧
      t.cue = { s.cue with hands := s.cue.hands ++ [.hold id o] } ∧
      t.vu = { s.vu with hands := s.vu.hands ++ [.hold id o] } ∧
      t.store = s.store ∧ t.pbc = s.pbc ∧ t.now = s.now) ∧
  (∀ (l : Link) (p : List Byte) (s : State), Completes l 5 p [] s → s.scu.showState = .hold →
    ∀ o : Origin, (l = .stage ∧ o = .stageLink ∨ l = .podium ∧ o = .podiumLink) →
    (s.scu.stopSet.has o = true →
      exec (.stop l p) s = .next (answer l 5 .ignored [] (taken l s))) ∧
    (s.scu.stopSet.has o = false →
      ∃ t, exec (.stop l p) s = .next t ∧ Answered l 5 .ok [] s t ∧
        t.scu = { s.scu with
          stopSet := s.scu.stopSet.put o true, stageClear := false, restart := none
          stageLinkStops :=
            if o = .stageLink then satInc s.scu.stageLinkStops else s.scu.stageLinkStops
          podiumLinkStops :=
            if o = .podiumLink then satInc s.scu.podiumLinkStops else s.scu.podiumLinkStops } ∧
        t.tmu = s.tmu ∧ t.clu = s.clu ∧ t.pdu = s.pdu ∧ t.cue = s.cue ∧ t.vu = s.vu ∧ t.store = s.store ∧
        t.pbc = s.pbc ∧ t.now = s.now))

/-- RELEASE in HOLD removes the Stage Link's origin and sets stage-clear. With another origin left, or with
neither a restart point nor held-from DARK, the show stays in HOLD. Otherwise it exits: to DARK without a
restart point, and to PREPARING or ARMED at the restart point, with the lamp and HOLD_ACTIVE off and the exit
recorded. Outside HOLD it is refused with REFUSED_STATE (R160, R162 to R164). -/
def Obligations.ReleaseClearsTheStageAndMayExit : Prop :=
  ∀ (p : List Byte) (s : State), Completes .stage 3 p [] s →
    let rest := s.scu.stopSet.put .stageLink false
    (s.scu.showState ≠ .hold →
      exec (.release .stage p) s = .next (answer .stage 3 .refusedState [] (taken .stage s))) ∧
    (s.scu.showState = .hold →
      ∃ t, exec (.release .stage p) s = .next t ∧ Answered .stage 3 .ok [] s t ∧
        t.scu.stopSet = rest ∧ t.scu.stopId = s.scu.stopId ∧ t.pbc = s.pbc ∧
        { t.store with cues := s.store.cues } = s.store ∧ t.now = s.now ∧
        (rest.isEmpty = false ∨ s.scu.restart = none ∧ s.scu.heldFrom ≠ some .dark →
          t.scu = { s.scu with stopSet := rest, stageClear := true } ∧ t.tmu = s.tmu ∧ t.cue = s.cue ∧
          t.pdu = s.pdu ∧ t.clu = s.clu ∧ t.vu = s.vu ∧ t.store = s.store) ∧
        (rest.isEmpty = true → s.scu.restart = none → s.scu.heldFrom = some .dark →
          t.scu = { s.scu with
            stopSet := rest, stageClear := false, showState := .dark, lamp := false
            stopRecord := s.scu.stopRecord.map fun r => { r with exit := some (.dark, s.now) }
            exitsDark := satInc s.scu.exitsDark } ∧
          t.holds .holdActive = false ∧ t.vu.banner = none ∧ t.tmu = s.tmu ∧ t.cue = s.cue ∧ t.pdu = s.pdu ∧
          t.clu = s.clu ∧ t.store = s.store) ∧
        ∀ r, rest.isEmpty = true → s.scu.restart = some r →
          (t.scu.showState = .preparing ∧ t.pdu.outstanding ≠ 0 ∨ t.scu.showState = .armed) ∧
          (DispatchInv s → t.scu.showState = .armed → t.pdu.outstanding = 0) ∧
          t.scu.position = s.store.positionAt r.song r.bar ∧ t.scu.armed = some (r.song, r.bar) ∧
          t.scu.restart = some r ∧ t.scu.stageClear = false ∧ t.scu.lamp = false ∧
          t.holds .holdActive = false ∧ t.vu.banner = none ∧
          t.scu.stopRecord = (s.scu.stopRecord.map fun x => { x with exit := some (.preparing, s.now) }) ∧
          t.cue.goPointer = s.store.firstGo r.song (fun c => decide (r.bar < c.place.1)) ∧
          t.scu.exitsPreparing = satInc s.scu.exitsPreparing)

/-- RESTART_AT in HOLD of a bar that is in the store removes the Podium Link's origin and sets the restart
point, its tempo limited to 30-300 BPM; while stage-clear is no the show stays in HOLD. A bar not there is
answered NOT_FOUND and counted, and outside HOLD it is refused with REFUSED_STATE (R161, R162). -/
def Obligations.RestartAtNamesTheRestartPoint : Prop :=
  ∀ (p : List Byte) (song : Byte) (bar : BitVec 16) (tempo : Option (BitVec 16)) (s : State),
    Completes .podium 7 p
      (song :: (be 2 bar.toNat ++ beOpt (fun x : BitVec 16 => be 2 x.toNat) tempo)) s →
    let there := ∃ g, s.store.song song.toNat = some g ∧ 1 ≤ bar.toNat ∧ bar.toNat ≤ g.lastBar
    let limited (x : Nat) : Nat := if x < 30 then 30 else if 300 < x then 300 else x
    let r : Restart := ⟨song.toNat, bar.toNat, tempo.map fun x => limited x.toNat⟩
    (s.scu.showState ≠ .hold →
      exec (.restartAt .podium p) s = .next (answer .podium 7 .refusedState [] (taken .podium s))) ∧
    (s.scu.showState = .hold → ¬ there →
      exec (.restartAt .podium p) s = .next (answer .podium 7 .notFound []
        ((taken .podium s).onScu fun c => { c with refusedRestarts := satInc c.refusedRestarts }))) ∧
    (s.scu.showState = .hold → there →
      ∃ t, exec (.restartAt .podium p) s = .next t ∧
        Answered .podium 7 (if tempo.all (fun x => limited x.toNat == x.toNat) then .ok else .clamped) []
          s t ∧
        t.scu.stopSet = s.scu.stopSet.put .podiumLink false ∧ t.scu.restart = some r ∧ t.pbc = s.pbc ∧
        t.now = s.now ∧
        (s.scu.stageClear = false ∨ (s.scu.stopSet.put .podiumLink false).isEmpty = false →
          t.scu = { s.scu with stopSet := s.scu.stopSet.put .podiumLink false, restart := some r } ∧
          t.tmu = s.tmu ∧ t.cue = s.cue ∧ t.pdu = s.pdu ∧ t.clu = s.clu ∧ t.vu = s.vu ∧
          t.store = s.store) ∧
        (s.scu.stageClear = true → (s.scu.stopSet.put .podiumLink false).isEmpty = true →
          (t.scu.showState = .preparing ∨ t.scu.showState = .armed) ∧
          (DispatchInv s → (t.scu.showState = .armed ↔ t.pdu.outstanding = 0)) ∧
          t.scu.armed = some (r.song, r.bar) ∧ t.scu.position = s.store.positionAt r.song r.bar ∧
          t.scu.lamp = false))

/-! ## Tempo -/

/-- TEMPO in RUNNING becomes the tempo override: FOLLOW keeps TRACKING or FLYWHEEL and else enters TRACKING
with the period kept; FIXED enters FIXED at its period, clamped to the bounds, and moves the next grid beat by
the change, now when that is past; LINK enters LINKED with its period waiting and P16 and the next grid beat kept.
Outside RUNNING it is refused with REFUSED_STATE; a mode out of the three or a period absent or out of range is
RANGE (R44). That a beat moved to before now stands at now is log entry 12; a period carried with FOLLOW is read over
by log entry 29; before the start beat the start time moves alike by log entry 52. -/
def Obligations.TempoOverridesTheSegment : Prop :=
  ∀ (p : List Byte) (mode : Byte) (period : Option (BitVec 32)) (s : State),
    Completes .podium 9 p (mode :: beOpt (fun x : BitVec 32 => be 4 x.toNat) period) s →
    (s.scu.showState ≠ .running →
      exec (.tempo .podium p) s = .next (answer .podium 9 .refusedState [] (taken .podium s))) ∧
    (s.scu.showState = .running →
      ((2 < mode.toNat ∨ mode ≠ 0 ∧ (period = none ∨ ∃ x, period = some x ∧
        (x.toNat < 200000 ∨ 2000000 < x.toNat))) →
        exec (.tempo .podium p) s = .next (answer .podium 9 .range [] (taken .podium s))) ∧
      (mode = 0 → ∃ t, exec (.tempo .podium p) s = .next t ∧ Answered .podium 9 .ok [] s t ∧
        t.tmu.tempo = (if s.tmu.tempo = .flywheel then .flywheel else .tracking) ∧
        t.tmu.overridden = true ∧ t.tmu.waitingLink = none ∧ t.tmu.p16 = s.tmu.p16 ∧
        t.tmu.nextBeat = s.tmu.nextBeat ∧ t.tmu.beatIndex = s.tmu.beatIndex ∧ sameOthers s t) ∧
      ∀ x, period = some x → 200000 ≤ x.toNat → x.toNat ≤ 2000000 →
        let c := if x.toNat < s.tmu.pmin then s.tmu.pmin else
          if s.tmu.pmax < x.toNat then s.tmu.pmax else x.toNat
        let result : Result := if c = x.toNat then .ok else .clamped
        (mode = 1 → s.tmu.pmin ≤ s.tmu.pmax →
          ∃ t, exec (.tempo .podium p) s = .next t ∧ Answered .podium 9 result [] s t ∧
            t.tmu.tempo = .fixed ∧ t.tmu.p16 = 16 * c ∧ t.tmu.overridden = true ∧ t.tmu.waitingLink = none ∧
            t.tmu.prevMatched = none ∧ (∀ b ∈ t.tmu.emitted ++ t.tmu.prior.toList, b.check = none ∧ b.mark = none) ∧
            (∀ n, s.tmu.nextBeat = some n →
              t.tmu.nextBeat = some (nowOrLater s.now ((n : Int) + c - (s.tmu.p16 / 16 : Nat)))) ∧
            sameOthers s t) ∧
        (mode = 2 → ∃ t, exec (.tempo .podium p) s = .next t ∧ Answered .podium 9 result [] s t ∧
          t.tmu.tempo = .linked ∧ t.tmu.waitingLink = some x.toNat ∧ t.tmu.p16 = s.tmu.p16 ∧
          t.tmu.nextBeat = s.tmu.nextBeat ∧ t.tmu.overridden = true ∧ t.tmu.prevMatched = none ∧
          (∀ b ∈ t.tmu.emitted ++ t.tmu.prior.toList, b.check = none ∧ b.mark = none) ∧ sameOthers s t))

/-- HANDOVER to the active podium drops a pending one; with NEXT_BAR in COUNT_IN or RUNNING it becomes pending;
otherwise it takes effect at once: the target is active, the match state is cleared, period, grid and bounds
stay. A byte out of its field's values is RANGE (R39, R40). -/
def Obligations.HandoverMovesTheActivePodium : Prop :=
  ∀ (p : List Byte) (a b : Byte) (s : State), Completes .podium 10 p [a, b] s →
    ((1 < a.toNat ∨ 1 < b.toNat) →
      exec (.handover .podium p) s = .next (answer .podium 10 .range [] (taken .podium s))) ∧
    ∀ target : Podium, (a = 0 ∧ target = .a ∨ a = 1 ∧ target = .b) → b.toNat ≤ 1 →
      (target = s.tmu.active → exec (.handover .podium p) s = .next
        (answer .podium 10 .ok [] ((taken .podium s).onTmu fun t => { t with handover := none }))) ∧
      (target ≠ s.tmu.active → b = 1 → (s.scu.showState = .countIn ∨ s.scu.showState = .running) →
        exec (.handover .podium p) s = .next
          (answer .podium 10 .ok [] ((taken .podium s).onTmu fun t => { t with handover := some target }))) ∧
      (target ≠ s.tmu.active → (b = 0 ∨ s.scu.showState ≠ .countIn ∧ s.scu.showState ≠ .running) →
        ∃ t, exec (.handover .podium p) s = .next t ∧ Answered .podium 10 .ok [] s t ∧
          t.tmu.active = target ∧ t.tmu.handover = none ∧ t.tmu.prevMatched = none ∧ t.tmu.outliers = 0 ∧
          t.tmu.misses = 0 ∧ t.tmu.reacquire = 0 ∧ t.tmu.p16 = s.tmu.p16 ∧ t.tmu.tempo = s.tmu.tempo ∧
          t.tmu.nextBeat = s.tmu.nextBeat ∧ t.tmu.pmin = s.tmu.pmin ∧ t.tmu.pmax = s.tmu.pmax ∧
          (∀ f ∈ t.vu.feeds, f.source = .podium → f.pending = none → f.showing = .cam target) ∧
          t.scu = s.scu ∧ t.store = s.store ∧ t.cue = s.cue ∧ t.pdu = s.pdu ∧ t.pbc = s.pbc ∧
          t.clu = s.clu ∧ { t.vu with feeds := s.vu.feeds } = s.vu ∧ t.now = s.now)

/-- An edge on a podium's line less than the debounce time after its last taken edge is a bounce: counted, and nothing
else. Any other edge is taken: it becomes the line's last taken edge and the newest of at most 16 log entries, INACTIVE
on the other podium's line, IGNORED_COUNT on the active one in IDLE, FIXED and LINKED, and the other line and the
bounce counters stay. A capture whose nearest grid beat, the emitted one at equal distance, or the pending one where no
emitted beat carries a mark, is not open is EXTRA: logged with its grid error, counted, BEAT_SLIP raised, and period,
phase, previous matched stamp, outlier record, miss and reacquire counts unchanged (R36, R37, R50). -/
def Obligations.BeatEdgeIsABounceOrIsLogged : Prop :=
  ∀ (pod : Podium) (s : State), s.inReset = false →
    let line := s.tmu.line pod
    let bounce := ∃ x, line.lastTaken = some x ∧ s.now < x + s.tmu.settings.debounce
    let logged (d : Disposition) : State := s.onTmu (Tmu.onLine pod fun l =>
      { l with
        lastTaken := some s.now
        log := (l.log ++ [(⟨s.now, d, none, none⟩ : LogEntry)]).drop (l.log.length + 1 - 16) })
    (bounce → exec (.beatEdge pod) s = .next
      (s.onTmu (Tmu.onLine pod fun l => { l with bounces := satInc l.bounces }))) ∧
    (¬ bounce → pod ≠ s.tmu.active → exec (.beatEdge pod) s = .next (logged .inactive)) ∧
    (¬ bounce → pod = s.tmu.active → (s.tmu.tempo = .idle ∨ s.tmu.tempo = .fixed ∨ s.tmu.tempo = .linked) →
      exec (.beatEdge pod) s = .next (logged .ignoredCount)) ∧
    (¬ bounce → pod = s.tmu.active → (s.tmu.tempo = .tracking ∨ s.tmu.tempo = .flywheel) →
      ∃ t e, exec (.beatEdge pod) s = .next t ∧ (t.tmu.line pod).lastTaken = some s.now ∧
        (t.tmu.line pod).log = (line.log ++ [e]).drop (line.log.length + 1 - 16) ∧ e.stamp = s.now ∧
        (e.disposition = .accepted ∨ e.disposition = .doubleSplit ∨ e.disposition = .extra ∨
          e.disposition = .outlier) ∧
        (t.tmu.line pod).bounces = line.bounces ∧
        (∀ other, other ≠ pod → t.tmu.line other = s.tmu.line other) ∧ sameOthers s t ∧
        (let extra (near : Nat) : Prop :=
          e.disposition = .extra ∧ e.gridError = some ((s.now : Int) - near) ∧
          t.tmu.extras = satInc s.tmu.extras ∧ t.lku.latched.getLsbD 2 = true ∧ t.tmu.p16 = s.tmu.p16 ∧
          t.tmu.nextBeat = s.tmu.nextBeat ∧ t.tmu.correction = s.tmu.correction ∧ t.tmu.tempo = s.tmu.tempo ∧
          t.tmu.prevMatched = s.tmu.prevMatched ∧ t.tmu.outliers = s.tmu.outliers ∧
          t.tmu.outlierIntervals = s.tmu.outlierIntervals ∧ t.tmu.misses = s.tmu.misses ∧
          t.tmu.reacquire = s.tmu.reacquire ∧ t.tmu.emitted = s.tmu.emitted
        ∀ (n : Nat) (m' : Mark), s.tmu.nextBeat = some n → s.tmu.pendingMark = some m' →
          ((∀ b, s.tmu.emitted.getLast? = some b → b.mark = none) → m' ≠ .opened → extra n) ∧
          ∀ (b : EmittedBeat) (m : Mark), s.tmu.emitted.getLast? = some b → b.mark = some m →
            let near : Nat × Mark :=
              if ((s.now : Int) - b.time).natAbs ≤ ((s.now : Int) - n).natAbs then (b.time, m) else (n, m')
            near.2 ≠ .opened → extra near.1))

/-- A capture of an open beat in TRACKING is classified by its interval I from the previous matched stamp: it
is an accepted interval when |I - P| ≤ P·w/64, a double split counted as I/2 when |I - 2P| ≤ P·w/128, and an
outlier otherwise; an accepted interval moves P16 by (16·I' - P16)/2^d truncated, clamped to the bounds in
force, and the capture becomes the previous matched stamp. The phase correction c = e/2^k truncated, limited to
P/8, moves a pending beat more than 2,000 µs ahead that is not the start beat, and else joins the pending
correction; matched to the last emitted beat, c and the change of the period move the next one. A pending
beat's time is not moved by the change, and a time moved to before now is now. An outlier that is the Rs-th or a
later one in turn, the last Rs intervals within M·w/64 of their mean M, reseeds the period to M, counted; else the
period stays (R50 to R54). In FLYWHEEL a matched capture sets the previous matched stamp and counts toward
reacquire, the second of them ending FLYWHEEL, with period, phase and outlier record kept (R57). That a beat moved to
before now stands at now is log entry 12, the intervals dropped at a reseed log entry 16, and the estimator's steps
left out in FLYWHEEL log entry 17. -/
def Obligations.MatchedCaptureStepsThePeriod : Prop :=
  (∀ (s : State) (pending : Bool) (g c : Nat), s.inReset = false → s.tmu.tempo = .tracking →
    s.tmu.bounces s.tmu.active s.now = false → s.now = c → s.tmu.nearest c = some (pending, g, .opened) →
    ∃ t, exec (.beatEdge s.tmu.active) s = .next t ∧ sameOthers s t ∧
      (s.tmu.prevMatched = none → t.tmu.p16 = s.tmu.p16) ∧
      let p : Int := (t.tmu.p16 / 16 : Nat)
      let limited (x : Int) : Int := if p / 8 < x then p / 8 else if x < -(p / 8) then -(p / 8) else x
      let corr := limited (((c : Int) - g).tdiv ((2 ^ s.tmu.settings.gain : Nat) : Int))
      let moved (x : Nat) (by_ : Int) : Prop := t.tmu.nextBeat = some (nowOrLater s.now ((x : Int) + by_))
      (pending = true → s.tmu.emitted ≠ [] → c + 2000 < g →
        moved g corr ∧ t.tmu.correction = s.tmu.correction) ∧
      (pending = true → (s.tmu.emitted = [] ∨ g ≤ c + 2000) →
        t.tmu.nextBeat = some g ∧ t.tmu.correction = limited (s.tmu.correction + corr)) ∧
      (pending = false →
        (∀ n, s.tmu.nextBeat = some n → moved n (corr + (p - (s.tmu.p16 / 16 : Nat)))) ∧
        t.tmu.correction = s.tmu.correction)) ∧
  (∀ (s : State) (pending : Bool) (g : Nat), s.inReset = false → s.tmu.tempo = .flywheel →
    s.tmu.bounces s.tmu.active s.now = false → s.tmu.nearest s.now = some (pending, g, .opened) →
    ∃ t e, exec (.beatEdge s.tmu.active) s = .next t ∧ (t.tmu.line s.tmu.active).log.getLast? = some e ∧
      e.stamp = s.now ∧ e.gridError = some ((s.now : Int) - g) ∧
      e.interval = s.tmu.prevMatched.map (fun x => s.now - x) ∧ t.tmu.prevMatched = some s.now ∧
      t.tmu.misses = 0 ∧ t.tmu.p16 = s.tmu.p16 ∧ t.tmu.nextBeat = s.tmu.nextBeat ∧
      t.tmu.correction = s.tmu.correction ∧ t.tmu.outliers = s.tmu.outliers ∧
      t.tmu.outlierIntervals = s.tmu.outlierIntervals ∧
      (pending = true → t.tmu.pendingMark = some .matched ∧ t.tmu.emitted = s.tmu.emitted) ∧
      (pending = false → ∃ b, t.tmu.emitted.getLast? = some b ∧ b.time = g ∧ b.mark = some .matched) ∧
      (s.tmu.reacquire = 0 → t.tmu.tempo = .flywheel ∧ t.tmu.reacquire = 1) ∧
      (1 ≤ s.tmu.reacquire → t.tmu.tempo = .tracking ∧ t.tmu.reacquire = 0 ∧ t.holds .followLost = false) ∧
      sameOthers s t) ∧
  ∀ (s : State) (pending : Bool) (g c prev : Nat), s.inReset = false → s.tmu.tempo = .tracking →
    s.tmu.bounces s.tmu.active s.now = false → s.now = c → s.tmu.nearest c = some (pending, g, .opened) →
    s.tmu.prevMatched = some prev → prev ≤ c →
    let i := c - prev
    let per := s.tmu.p16 / 16
    let w := s.tmu.settings.window
    let near := ((i : Int) - per).natAbs ≤ per * w / 64
    let split := ((i : Int) - 2 * per).natAbs ≤ per * w / 128
    let stepped (x : Nat) : Nat :=
      let y := ((s.tmu.p16 : Int) + (16 * x - s.tmu.p16 : Int).tdiv ((2 ^ s.tmu.settings.depth : Nat) : Int)).toNat
      if y < 16 * s.tmu.pmin then 16 * s.tmu.pmin else if 16 * s.tmu.pmax < y then 16 * s.tmu.pmax else y
    ∃ t e, exec (.beatEdge s.tmu.active) s = .next t ∧ (t.tmu.line s.tmu.active).log.getLast? = some e ∧
      e.stamp = c ∧ e.interval = some i ∧ e.gridError = some ((c : Int) - g) ∧
      t.tmu.prevMatched = some c ∧ t.tmu.misses = 0 ∧ t.tmu.tempo = .tracking ∧
      (near → e.disposition = .accepted ∧ t.tmu.p16 = stepped i ∧ t.tmu.outliers = 0 ∧
        t.tmu.splits = s.tmu.splits) ∧
      (¬ near → split → e.disposition = .doubleSplit ∧ t.tmu.p16 = stepped (i / 2) ∧ t.tmu.outliers = 0 ∧
        t.tmu.splits = satInc s.tmu.splits) ∧
      (¬ near → ¬ split → e.disposition = .outlier ∧ t.tmu.outlierTotal = satInc s.tmu.outlierTotal ∧
        t.tmu.splits = s.tmu.splits ∧
        (s.tmu.settings.reseed ≤ 8 →
          let rs := s.tmu.settings.reseed
          let last := (s.tmu.outlierIntervals ++ [i]).drop (s.tmu.outlierIntervals.length + 1 - rs)
          let mean := last.sum / rs
          let clamped (x : Nat) : Nat :=
            if x < s.tmu.pmin then s.tmu.pmin else if s.tmu.pmax < x then s.tmu.pmax else x
          let within_ := ∀ x ∈ last, ((x : Int) - mean).natAbs ≤ mean * w / 64
          (rs ≤ s.tmu.outliers + 1 → within_ → t.tmu.p16 = 16 * clamped mean ∧ t.tmu.outliers = 0 ∧
            t.tmu.outlierIntervals = [] ∧ t.tmu.reseeds = satInc s.tmu.reseeds) ∧
          (s.tmu.outliers < 255 → s.tmu.outliers + 1 < rs ∨ ¬ within_ → t.tmu.p16 = s.tmu.p16 ∧
            t.tmu.outliers = s.tmu.outliers + 1 ∧ t.tmu.reseeds = s.tmu.reseeds))) ∧
      sameOthers s t

/-- When the show time base reaches the next grid beat time, the TMU emits the beat: the next one is due a period and
the pending correction later, or now when that is past, the correction becomes 0 and the index counts. In TRACKING and
FLYWHEEL the emitted beat keeps its mark, with a miss check half a period after it while it is open, and the new pending
beat is open; in FIXED and LINKED neither has a mark. In every tempo mode of a running grid: the start beat is not
stepped; COUNT_IN steps the beat, and the bar with its count bars; RUNNING steps the beat and the bar within a segment,
and a vamp without its exit armed wraps with its pass counted to 255; in HOLD nothing is stepped. Each beat is handed to
the CLU, CUE, PDU and VU with the position as it then stands. At a downbeat a pending handover takes effect: its podium
is active, the match state is cleared with every open or matched mark open, and the PODIUM feeds turn to its camera. The
wrap is a
downbeat and no segment entry, and no mode, override or bound of the TMU changes by it. In LINKED a waiting period is
applied at the beat, clamped to the bounds, with TEMPO_CLAMP when that changes it, and governs the interval that begins
there (R11, R12, R29, R31, R33, R39, R40, R45, R47 to R49, R143, R158). That a next beat time set at or before now stands at
now is log entry 12, and that a beat in HOLD is delivered with the indication its beat gives log entry 19. -/
def Obligations.GridBeatStepsThePosition : Prop :=
  (∀ (s : State) (g : Nat) (d : Place) (x : Segment), s.inReset = false → s.tmu.tempo ≠ .idle →
    s.tmu.nextBeat = some g → g ≤ s.now → s.tmu.hands = [] → s.scu.showState = .running → s.tmu.emitted ≠ [] →
    s.scu.position.place = some d → s.segment = some x → x.vamp = true → s.scu.position.exitArmed = false →
    x.meter < d.beat + 1 → ((x.firstBar + x.barCount - 1 : Nat) : Int) < d.bar + 1 →
    let q : Position :=
      { s.scu.position with
        place := some { d with bar := x.firstBar, beat := 1 }
        pass := if s.scu.position.pass < 255 then s.scu.position.pass + 1 else 255 }
    ∃ t e, exec .gridBeat s = .next t ∧ t.scu = { s.scu with position := q } ∧ e.position = q ∧
      e.wrap = true ∧ e.entry = false ∧ e.downbeat = true ∧ e.showState = .running ∧
      t.clu.hands = s.clu.hands ++ [.beat e] ∧ t.cue.hands = s.cue.hands ++ [.beat e] ∧
      t.pdu.hands = s.pdu.hands ++ [.beat e] ∧ t.vu.hands = s.vu.hands ++ [.beat e] ∧
      t.tmu.tempo = s.tmu.tempo ∧ t.tmu.overridden = s.tmu.overridden ∧ t.tmu.pmin = s.tmu.pmin ∧
      t.tmu.pmax = s.tmu.pmax ∧ t.store = s.store ∧ t.pbc = s.pbc ∧ t.now = s.now) ∧
  (∀ (s : State) (g w : Nat) (d : Place) (x : Segment), s.inReset = false → s.tmu.tempo = .linked →
    s.tmu.waitingLink = some w → s.tmu.nextBeat = some g → g ≤ s.now → s.tmu.hands = [] →
    s.scu.showState = .running → s.tmu.emitted ≠ [] → s.scu.position.place = some d → s.segment = some x →
    d.beat + 1 ≤ x.meter →
    let c := if w < s.tmu.pmin then s.tmu.pmin else if s.tmu.pmax < w then s.tmu.pmax else w
    ∃ t e, exec .gridBeat s = .next t ∧ t.tmu.tempo = .linked ∧ t.tmu.p16 = 16 * c ∧
      t.tmu.waitingLink = none ∧
      t.tmu.nextBeat = some (nowOrLater s.now (((g + c : Nat) : Int) + s.tmu.correction)) ∧
      (c ≠ w → t.lku.latched.getLsbD 14 = true) ∧ t.cue.hands = s.cue.hands ++ [.beat e] ∧ e.time = g ∧
      e.period = c ∧ e.index = s.tmu.beatIndex ∧
      t.scu = { s.scu with position := { s.scu.position with place := some { d with beat := d.beat + 1 } } } ∧
      t.store = s.store ∧ t.pbc = s.pbc ∧ t.now = s.now) ∧
  ∀ (s : State) (g : Nat) (d : Place) (x : Segment) (song : Song), s.inReset = false →
    s.tmu.tempo ≠ .idle → (s.tmu.tempo = .linked → s.tmu.waitingLink = none) → s.tmu.nextBeat = some g →
    g ≤ s.now → (s.tmu.emitted = [] → s.tmu.hands = []) → s.scu.position.place = some d →
    s.segment = some x → s.store.song d.song = some song →
    let start := s.tmu.emitted.isEmpty
    let p := s.scu.position
    let last := x.firstBar + x.barCount - 1
    let show_ := s.scu.showState
    ∀ q : Position, (
      ((show_ = .countIn ∨ show_ = .running) ∧ start = true ∧ q = p) ∨
      (show_ = .countIn ∧ start = false ∧ d.beat + 1 ≤ x.meter ∧ d.bar < 0 ∧
        q = { p with place := some { d with beat := d.beat + 1 } }) ∨
      (show_ = .countIn ∧ start = false ∧ x.meter < d.beat + 1 ∧ d.bar = -2 ∧
        q = { p with place := some { d with bar := -1, beat := 1 }, countBars := 1 }) ∨
      (show_ = .running ∧ start = false ∧ d.beat + 1 ≤ x.meter ∧
        q = { p with place := some { d with beat := d.beat + 1 } }) ∨
      (show_ = .running ∧ start = false ∧ x.meter < d.beat + 1 ∧ d.bar + 1 ≤ last ∧
        q = { p with place := some { d with bar := d.bar + 1, beat := 1 } }) ∨
      (show_ = .running ∧ start = false ∧ x.meter < d.beat + 1 ∧ (last : Int) < d.bar + 1 ∧ x.vamp = true ∧
        p.exitArmed = false ∧
        q = { p with
          place := some { d with bar := x.firstBar, beat := 1 }
          pass := if p.pass < 255 then p.pass + 1 else 255 }) ∨
      (show_ = .hold ∧ q = p)) →
    let period := s.tmu.p16 / 16
    let follows := s.tmu.tempo = .tracking ∨ s.tmu.tempo = .flywheel
    let beat : EmittedBeat :=
      { time := g
        mark := if follows then s.tmu.pendingMark else none
        check := if follows ∧ s.tmu.pendingMark = some .opened then some (g + period / 2) else none }
    let stepped : Tmu :=
      { s.tmu with
        nextBeat := some (nowOrLater s.now (((g + period : Nat) : Int) + s.tmu.correction))
        correction := 0
        beatIndex := s.tmu.beatIndex + 1
        pendingMark := if follows then some .opened else none
        emitted := (s.tmu.emitted.filter fun b => b.check.isSome) ++ [beat] }
    let reopened (m : Option Mark) : Option Mark := m.map fun k => if k = .missed then .missed else .opened
    let reopenedBeat (b : EmittedBeat) : EmittedBeat := { b with mark := reopened b.mark }
    ∃ t e, exec .gridBeat s = .next t ∧ t.scu = { s.scu with position := q } ∧
      (let tmuIs (k : Tmu) : Prop := { t.tmu with atOnce := s.tmu.atOnce } = k
      (e.downbeat = false ∨ s.tmu.handover = none →
        tmuIs stepped ∧ t.vu = { s.vu with hands := s.vu.hands ++ [.beat e] } ∧ t.lku = s.lku) ∧
      ∀ n, e.downbeat = true → s.tmu.handover = some n →
        tmuIs { stepped with
          active := n, handover := none, prevMatched := none, outliers := 0, outlierIntervals := [], misses := 0
          reacquire := 0, pendingMark := reopened stepped.pendingMark
          emitted := stepped.emitted.map reopenedBeat, prior := stepped.prior.map reopenedBeat } ∧
        t.vu = { s.vu with
          hands := s.vu.hands ++ [.beat e]
          feeds := s.vu.feeds.map fun f =>
            if f.source = .podium ∧ (f.pending = none ∨ f.pending = some .podium) then
              { f with pending := if f.showing = .cam n then none else some .podium }
            else f }) ∧
      e.index = s.tmu.beatIndex ∧ e.time = g ∧ e.period = period ∧ e.showState = show_ ∧
      e.position = q ∧ e.downbeat = (q.place.map Place.beat == some 1) ∧ e.entry = false ∧
      e.wrap = decide (show_ = .running ∧ start = false ∧ x.meter < d.beat + 1 ∧ (last : Int) < d.bar + 1) ∧
      t.clu = { s.clu with hands := s.clu.hands ++ [.beat e] } ∧
      t.cue = { s.cue with hands := s.cue.hands ++ [.beat e] } ∧
      t.pdu = { s.pdu with hands := s.pdu.hands ++ [.beat e] } ∧ t.store = s.store ∧ t.pbc = s.pbc ∧
      t.now = s.now

/-- The grid beat after the last count bar's last beat makes the show RUNNING at the armed position and hands
its segment's mode to the TMU. A beat that steps past a segment that is no vamp, or a vamp with its exit armed, enters
the next segment: pass 1, no exit armed, the entered bounds and mode, the override and the lanes' pattern overrides
ended, and the next grid beat moved by the change of period. Past the song's last segment a segue song that is
defined is entered alike at its bar 1: RUNNING stays, its cues' fired marks go, the pointer takes its first GO cue,
and its opening list is handed to the PDU; with no segue song the show is DARK with the position kept and the TMU
IDLE with its period kept and no next grid beat. Each beat is delivered with what it made, and a pending handover takes
effect. All this in every tempo mode of a running grid: a waiting linked period is applied first, and a FOLLOW segment
leaves FLYWHEEL in force (R12, R14, R15, R30, R32, R33, R39, R41, R43, R45, R47, R128). That the CLU, reached for the
end of overrides, first takes what waits for it is log entry 11; a beat time set at or before now standing as now is log
entry 12; that a segment is entered at step 2's bar, where a storage fault has given it another first bar, is log entry
89. -/
def Obligations.GridBeatEndsTheCountInAndTheSong : Prop :=
  ∀ (s : State) (g : Nat) (d : Place) (x : Segment) (song : Song), s.inReset = false →
    s.tmu.tempo ≠ .idle → s.tmu.nextBeat = some g → g ≤ s.now → s.tmu.hands = [] →
    s.scu.position.place = some d → s.segment = some x → s.store.song d.song = some song →
    s.tmu.emitted ≠ [] → x.meter < d.beat + 1 →
    let handedOver (t : State) : Prop :=
      t.tmu.handover = none ∧ t.tmu.active = s.tmu.handover.getD s.tmu.active
    let follow : TempoState := if s.tmu.tempo = .flywheel then .flywheel else .tracking
    let p16 : Nat := match s.tmu.waitingLink with
      | some w =>
        if s.tmu.tempo = .linked then
          16 * (if w < s.tmu.pmin then s.tmu.pmin else if s.tmu.pmax < w then s.tmu.pmax else w)
        else s.tmu.p16
      | none => s.tmu.p16
    (∀ (n b k : Nat) (into : Song) (y : Segment), s.scu.showState = .countIn → d.bar = -1 →
      s.scu.armed = some (n, b) → s.store.song n = some into → into.segmentIndex b = some k →
      into.segments[k]? = some y →
      ∃ t, exec .gridBeat s = .next t ∧ t.scu.showState = .running ∧
        t.scu.position = { place := some ⟨n, b, 1, k⟩, pass := 1, exitArmed := false, countBars := 0 } ∧
        t.tmu.pmin = y.pmin ∧ t.tmu.pmax = y.pmax ∧ handedOver t ∧
        t.tmu.overridden = false ∧
        (y.fixed = none → t.tmu.tempo = follow) ∧ (∀ pf, y.fixed = some pf → t.tmu.tempo = .fixed) ∧
        (∃ e, t.cue.hands = s.cue.hands ++ [.beat e] ∧ e.showState = .running ∧
          e.position = t.scu.position ∧ e.downbeat = true ∧ e.entry = true) ∧
        t.store = s.store ∧ t.pbc = s.pbc ∧ t.now = s.now) ∧
    (let entered (y : Segment) (t : State) : Prop :=
      let clamped (q : Nat) : Nat :=
        if q < 16 * y.pmin then 16 * y.pmin else if 16 * y.pmax < q then 16 * y.pmax else q
      t.tmu.pmin = y.pmin ∧ t.tmu.pmax = y.pmax ∧ t.tmu.overridden = false ∧ t.tmu.waitingLink = none ∧
      handedOver t ∧ (y.fixed = none → t.tmu.tempo = follow ∧ t.tmu.p16 = clamped p16) ∧
      (∀ pf, y.fixed = some pf → t.tmu.tempo = .fixed ∧ t.tmu.p16 = clamped (16 * pf)) ∧
      t.tmu.nextBeat = some (nowOrLater s.now
        ((nowOrLater s.now (((g + p16 / 16 : Nat) : Int) + s.tmu.correction) : Int) +
          ((t.tmu.p16 / 16 : Nat) - (p16 / 16 : Nat) : Int))) ∧
      (∀ n ∈ t.clu.lanes, n.override = none) ∧
      (∃ e, e.showState = .running ∧ e.position = t.scu.position ∧ e.downbeat = true ∧ e.entry = true ∧
        e.wrap = false ∧ e.time = g ∧ e.period = p16 / 16 ∧ e.index = s.tmu.beatIndex ∧
        t.clu.hands = [.beat e] ∧ t.cue.hands.getLast? = some (.beat e) ∧
        t.pdu.hands.getLast? = some (.beat e) ∧ t.vu.hands = s.vu.hands ++ [.beat e]) ∧
      { t.store with cues := s.store.cues } = s.store ∧ t.pbc = s.pbc ∧ t.now = s.now
    s.scu.showState = .running → (x.firstBar + x.barCount - 1 : Nat) < d.bar + 1 →
      (x.vamp = false ∨ s.scu.position.exitArmed = true) →
      (∀ y, song.segments[d.segment + 1]? = some y →
        ∃ t, exec .gridBeat s = .next t ∧ entered y t ∧ t.store = s.store ∧
          { t.pdu with hands := s.pdu.hands } = s.pdu ∧ { t.cue with hands := s.cue.hands } = s.cue ∧
          t.scu = { s.scu with
            position := { s.scu.position with
              place := some { d with bar := d.bar + 1, beat := 1, segment := d.segment + 1 }
              pass := 1, exitArmed := false } }) ∧
      ∀ (n k : Nat) (into : Song) (y : Segment), song.segments[d.segment + 1]? = none →
        song.segue = some n → s.store.song n = some into → into.number = n → into.segmentIndex 1 = some k →
        into.segments[k]? = some y → s.cue.hands = [] → s.pdu.hands = [] →
        ∃ t, exec .gridBeat s = .next t ∧ entered y t ∧
          t.scu = { s.scu with
            position := { place := some ⟨n, 1, 1, k⟩, pass := 1, exitArmed := false, countBars := 0 } } ∧
          t.store.cues = s.store.cues.map (fun e => if e.cue.song = n then { e with fired := none } else e) ∧
          { t.cue with hands := [], goPointer := s.cue.goPointer } = s.cue ∧
          t.cue.goPointer = s.store.firstGo n (fun _ => true) ∧
          (into.opening = [] → { t.pdu with hands := [] } = s.pdu) ∧
          ∀ o, into.opening = [o] → 1 ≤ o.station → o.station ≤ 14 → s.pdu.queues.length = 14 →
            ((s.station o.station).state = .absent ∨ (s.station o.station).state = .cut →
              t.pdu.queues = s.pdu.queues) ∧
            ((s.station o.station).state.joined = true → s.queue o.station = [] →
              t.queue o.station = [
                { station := o.station, layer := o.layer, patch := o.patch, origin := .cue, form := .now
                  landPlace := none, landTime := s.now, seq := s.pdu.nextSeq }])) ∧
    (s.scu.showState = .running → (x.firstBar + x.barCount - 1 : Nat) < d.bar + 1 →
      (x.vamp = false ∨ s.scu.position.exitArmed = true) → song.segments[d.segment + 1]? = none →
      (song.segue = none ∨ ∃ n, song.segue = some n ∧ s.store.song n = none) →
      ∃ t, exec .gridBeat s = .next t ∧ t.scu = { s.scu with showState := .dark } ∧ t.tmu.tempo = .idle ∧
        t.tmu.p16 = p16 ∧ t.tmu.nextBeat = none ∧ t.tmu.emitted = [] ∧ handedOver t ∧
        (∃ e, t.cue.hands = s.cue.hands ++ [.beat e] ∧ t.clu.hands = s.clu.hands ++ [.beat e] ∧
          t.pdu.hands = s.pdu.hands ++ [.beat e] ∧ t.vu.hands = s.vu.hands ++ [.beat e] ∧
          e.showState = .dark ∧ e.position = s.scu.position ∧ e.downbeat = false ∧ e.entry = false ∧
          e.wrap = false) ∧
        t.store = s.store ∧ t.pbc = s.pbc ∧ t.now = s.now)

/-- A miss check that finds its beat open marks it missed, counts it and raises BEAT_SLIP. In TRACKING the
consecutive misses count, and at the cut level the TMU enters FLYWHEEL with FOLLOW_LOST, its period and
correction kept; in FLYWHEEL the reacquire count becomes 0. A check whose beat is not open changes nothing but
itself. So it is with the check of a beat of this grid, those of earlier beats still to come, and with that of an
earlier grid's last beat, opened at COUNT (R48, R56; log entry 70). -/
def Obligations.MissedBeatCountsTowardFlywheel : Prop :=
  ∀ (s : State) (b : EmittedBeat) (c : Nat), s.inReset = false → b.check = some c → c ≤ s.now →
    s.now < timeMax →
    let missed (t : State) : Prop :=
      t.lku.latched.getLsbD 2 = true ∧ (∀ l, (t.lku.link l).captured.getLsbD 2 = true) ∧
      t.tmu.missed = satInc s.tmu.missed ∧ t.tmu.p16 = s.tmu.p16 ∧ t.tmu.correction = s.tmu.correction ∧
      t.tmu.nextBeat = s.tmu.nextBeat ∧ sameOthers s t ∧
      (s.tmu.tempo = .flywheel → t.tmu.tempo = .flywheel ∧ t.tmu.reacquire = 0 ∧
        t.tmu.misses = s.tmu.misses) ∧
      (s.tmu.tempo = .tracking → s.tmu.misses < 16 → t.tmu.misses = s.tmu.misses + 1 ∧
        (s.tmu.misses + 1 < s.tmu.settings.cut → t.tmu.tempo = .tracking) ∧
        (s.tmu.settings.cut ≤ s.tmu.misses + 1 → t.tmu.tempo = .flywheel ∧ t.holds .followLost = true ∧
          t.tmu.outliers = 0 ∧ t.tmu.outlierIntervals = [] ∧ t.tmu.reacquire = 0))
    let gone : EmittedBeat := { b with check := none }
    let lost : EmittedBeat := { b with check := none, mark := some .missed }
    (∀ before after : List EmittedBeat, s.tmu.emitted = before ++ b :: after →
      (∀ a ∈ before, ∀ x, a.check = some x → s.now < x) →
      (∀ a, s.tmu.prior = some a → ∀ x, a.check = some x → s.now < x) →
      (b.mark ≠ some .opened →
        exec .missCheck s = .next (s.onTmu fun t => { t with emitted := before ++ gone :: after })) ∧
      (b.mark = some .opened → ∃ t, exec .missCheck s = .next t ∧ missed t ∧
        t.tmu.emitted = before ++ lost :: after ∧ t.tmu.prior = s.tmu.prior)) ∧
    (s.tmu.prior = some b →
      (b.mark ≠ some .opened → exec .missCheck s = .next (s.onTmu fun t => { t with prior := some gone })) ∧
      (b.mark = some .opened → ∃ t, exec .missCheck s = .next t ∧ missed t ∧
        t.tmu.prior = some lost ∧ t.tmu.emitted = s.tmu.emitted))

/-! ## Panics -/

/-- A PANIC at the head of the report queue adds its entry last, or counts a repeat of the one there, or, with
8 held, takes the oldest one's place; a player out of 1-8 is counted and not taken. ACK_PANIC removes the entry of
its station and player, the others closing up in order; ACK_PANIC_ALL empties the list; PANIC is true exactly
while the list holds an entry. A pair with no entry is NOT_FOUND, and a station or player out of range RANGE
(R148, R149). -/
def Obligations.PanicListTakesAndDropsEntries : Prop :=
  (∀ (s : State) (st n : Nat) (rest : List (Nat × Report)), s.inReset = false →
    s.pbc.reports = (st, .panic n) :: rest →
    ∃ t, exec .panicReport s = .next t ∧ t.pbc = { s.pbc with reports := rest } ∧ t.scu = s.scu ∧
      t.tmu = s.tmu ∧ t.store = s.store ∧ t.cue = s.cue ∧ t.pdu = s.pdu ∧ t.clu = s.clu ∧ t.now = s.now ∧
      ((n = 0 ∨ 8 < n) → t.vu = { s.vu with badPanic := satInc s.vu.badPanic } ∧ t.lku = s.lku) ∧
      (1 ≤ n → n ≤ 8 → t.holds .panic = true ∧ t.vu.panicsTaken = s.vu.panicsTaken + 1 ∧
        ((∃ e ∈ s.vu.panic, e.station = st ∧ e.player = n) →
          t.vu.panic = s.vu.panic.map fun e =>
            if e.station = st ∧ e.player = n then
              { e with repeats := if e.repeats < 255 then e.repeats + 1 else 255 }
            else e) ∧
        ((∀ e ∈ s.vu.panic, ¬ (e.station = st ∧ e.player = n)) →
          t.vu.panic =
            (if s.vu.panic.length < 8 then s.vu.panic else s.vu.panic.tail) ++ [⟨st, n, s.now, 0⟩] ∧
          t.vu.replaced =
            if s.vu.panic.length < 8 then s.vu.replaced else satInc s.vu.replaced))) ∧
  (∀ (p : List Byte) (s : State),
    (∀ st pl : Byte, Completes .podium 11 p [st, pl] s →
      (¬ (1 ≤ st.toNat ∧ st.toNat ≤ 14 ∧ 1 ≤ pl.toNat ∧ pl.toNat ≤ 8) →
        exec (.ackPanic .podium p) s = .next (answer .podium 11 .range [] (taken .podium s))) ∧
      (1 ≤ st.toNat → st.toNat ≤ 14 → 1 ≤ pl.toNat → pl.toNat ≤ 8 →
        ((∀ e ∈ s.vu.panic, ¬ (e.station = st.toNat ∧ e.player = pl.toNat)) →
          exec (.ackPanic .podium p) s = .next (answer .podium 11 .notFound [] (taken .podium s))) ∧
        ((∃ e ∈ s.vu.panic, e.station = st.toNat ∧ e.player = pl.toNat) →
          ∃ t, exec (.ackPanic .podium p) s = .next t ∧ Answered .podium 11 .ok [] s t ∧
            t.vu = { s.vu with
              panic := s.vu.panic.filter fun e => e.station != st.toNat || e.player != pl.toNat } ∧
            t.holds .panic = !t.vu.panic.isEmpty ∧ t.scu = s.scu ∧ t.tmu = s.tmu ∧ t.store = s.store ∧
            t.cue = s.cue ∧ t.pdu = s.pdu ∧ t.pbc = s.pbc ∧ t.clu = s.clu ∧ t.now = s.now))) ∧
    (Completes .podium 12 p [] s →
      ∃ t, exec (.ackPanicAll .podium p) s = .next t ∧ Answered .podium 12 .ok [] s t ∧
        t.vu = { s.vu with panic := [] } ∧ t.holds .panic = false ∧ t.scu = s.scu ∧ t.tmu = s.tmu ∧
        t.store = s.store ∧ t.cue = s.cue ∧ t.pdu = s.pdu ∧ t.pbc = s.pbc ∧ t.clu = s.clu ∧ t.now = s.now))

/-! ## Store writes -/

/-- Each of the eight store writes, its payload of an allowed length, is refused with REFUSED_STATE in
PREPARING, ARMED, COUNT_IN and RUNNING, and with LOCKED in DARK and HOLD while the store is locked; nothing
else changes (R22, R62, R63, R114, R125, R140, R192). -/
def Obligations.StoreWritesNeedStateAndLock : Prop :=
  ∀ (p whole : List Byte) (r : Result) (s : State),
    (s.scu.showState ≠ .dark ∧ s.scu.showState ≠ .hold ∧ r = .refusedState ∨
      (s.scu.showState = .dark ∨ s.scu.showState = .hold) ∧ s.store.locked = true ∧ r = .locked) →
    let t := taken .rig s
    (Completes .rig 16 p whole s → (songOperand whole).isSome = true →
      exec (.writeSong .rig p) s = .next (answer .rig 16 r [] t)) ∧
    (Completes .rig 17 p whole s → whole.length = 1 →
      exec (.deleteSong .rig p) s = .next (answer .rig 17 r [] t)) ∧
    (Completes .rig 18 p whole s → whole.length = 14 →
      exec (.writePattern .rig p) s = .next (answer .rig 18 r [] t)) ∧
    (Completes .rig 19 p whole s → (cueOperand whole).isSome = true →
      exec (.writeCue .rig p) s = .next (answer .rig 19 r [] t)) ∧
    (Completes .rig 20 p whole s → whole.length = 2 →
      exec (.deleteCue .rig p) s = .next (answer .rig 20 r [] t)) ∧
    (Completes .rig 21 p whole s → (∃ n l, whole = n :: l ∧ l.length = n.toNat) →
      exec (.writeRoster .rig p) s = .next (answer .rig 21 r [] t)) ∧
    (Completes .rig 22 p whole s → whole.length = 10 →
      exec (.writeLaneBase .rig p) s = .next (answer .rig 22 r [] t)) ∧
    (Completes .rig 23 p whole s → whole.length = 6 →
      exec (.writeFeedBase .rig p) s = .next (answer .rig 23 r [] t))

/-- WRITE_SONG and DELETE_SONG that pass their checks replace or remove one song record, unseal the store, and
clear what the SCU holds of that song as R26 gives; every other record stays. A record out of R23 is RANGE; a
song that HOLD from a song holds is REFUSED_STATE; cues that would lose their place are RANGE; no free segment
records is FULL; a song number out of 1-64 is RANGE and one not defined NOT_FOUND (R22 to R26, R189). That a mode or
vamp byte of no value is RANGE too is log entry 53. -/
def Obligations.SongWritesReplaceOneRecord : Prop :=
  ∀ (p whole : List Byte) (s : State), s.store.locked = false → s.store.songs.length = 64 →
    (s.scu.showState = .dark ∨ s.scu.showState = .hold) →
    let written (n : Nat) (g : Option Song) (t : State) : Prop := Unsealed t ∧
      (∀ k, t.store.song k = if k = n then g else s.store.song k) ∧
      t.store.patterns = s.store.patterns ∧ t.store.cues = s.store.cues ∧ t.store.roster = s.store.roster ∧
      t.store.laneBases = s.store.laneBases ∧ t.store.feedBases = s.store.feedBases ∧
      t.store.locked = false ∧ clearsHeldSong n s t ∧ t.tmu = s.tmu ∧ t.pdu = s.pdu ∧ t.pbc = s.pbc ∧
      t.clu = s.clu ∧ t.vu = s.vu ∧ t.now = s.now
    (∀ ok g, songOperand whole = some (ok, g) → Completes .rig 16 p whole s →
      let answered (r : Result) : Prop :=
        exec (.writeSong .rig p) s = .next (answer .rig 16 r [] (taken .rig s))
      let kept := ∀ e ∈ s.store.cues, e.cue.song = g.number → CueFits g e.cue
      let used := s.store.segmentsBut g.number + g.segments.length
      (¬ (ok = true ∧ SongInRange g) → answered .range) ∧
      (ok = true → SongInRange g →
        (holdsSong g.number s = true → answered .refusedState) ∧
        (holdsSong g.number s = false → ¬ kept → answered .range) ∧
        (holdsSong g.number s = false → kept → 1024 < used → answered .full) ∧
        (holdsSong g.number s = false → kept → used ≤ 1024 →
          ∃ t, exec (.writeSong .rig p) s = .next t ∧ Answered .rig 16 .ok [] s t ∧
            written g.number (some g) t))) ∧
    (∀ b : Byte, Completes .rig 17 p [b] s →
      let n := b.toNat
      let answered (r : Result) : Prop :=
        exec (.deleteSong .rig p) s = .next (answer .rig 17 r [] (taken .rig s))
      let kept := ∀ e ∈ s.store.cues, e.cue.song ≠ n
      (holdsSong n s = true → answered .refusedState) ∧
      (holdsSong n s = false → ¬ kept → answered .range) ∧
      (holdsSong n s = false → kept → (n = 0 ∨ 64 < n) → answered .range) ∧
      (holdsSong n s = false → kept → 1 ≤ n → n ≤ 64 → s.store.song n = none → answered .notFound) ∧
      (holdsSong n s = false → kept → 1 ≤ n → n ≤ 64 → s.store.song n ≠ none →
        ∃ t, exec (.deleteSong .rig p) s = .next t ∧ Answered .rig 17 .ok [] s t ∧ written n none t))

/-- WRITE_PATTERN, WRITE_LANE_BASE and WRITE_FEED_BASE, with values in range, replace one record and unseal the
store; a lane base write recomputes that lane's effective offset, and a feed base write judges that feed's
latency high again. A value out of range is RANGE with nothing changed (R27, R125, R129, R140, R151). -/
def Obligations.RecordWritesReplaceOneRecord : Prop :=
  ∀ (p : List Byte) (n : Byte) (s : State), s.store.locked = false →
    (s.scu.showState = .dark ∨ s.scu.showState = .hold) → s.store.patterns.length = 16 →
    s.store.laneBases.length = 16 → s.clu.lanes.length = 16 → s.store.feedBases.length = 6 →
    s.vu.feeds.length = 6 →
    let bare := taken .rig s
    (∀ (levels : List Byte) (sub : Byte), levels.length = 12 →
      Completes .rig 18 p (n :: (levels ++ [sub])) s →
      ((15 < n.toNat ∨ 3 < sub.toNat ∨ ∃ a ∈ levels, 3 < a.toNat) →
        exec (.writePattern .rig p) s = .next (answer .rig 18 .range [] bare)) ∧
      (n.toNat ≤ 15 → sub.toNat ≤ 3 → (∀ a ∈ levels, a.toNat ≤ 3) →
        ∃ t, exec (.writePattern .rig p) s = .next t ∧ Answered .rig 18 .ok [] s t ∧ Unsealed t ∧
          (∀ k ≤ 15, t.store.patterns[k]? =
            if k = n.toNat then some ⟨levels.map BitVec.toNat, sub.toNat⟩ else s.store.patterns[k]?) ∧
          t.store.songs = s.store.songs ∧ t.store.cues = s.store.cues ∧ t.store.roster = s.store.roster ∧
          t.store.laneBases = s.store.laneBases ∧ t.store.feedBases = s.store.feedBases ∧ t.scu = s.scu ∧
          t.tmu = s.tmu ∧ t.cue = s.cue ∧ t.pdu = s.pdu ∧ t.pbc = s.pbc ∧ t.clu = s.clu ∧ t.vu = s.vu ∧
          t.now = s.now)) ∧
    (∀ (sub b3 b2 b1 b0 follow weak normal accent : Byte),
      Completes .rig 22 p [n, sub, b3, b2, b1, b0, follow, weak, normal, accent] s →
      let base := ((b3.toNat * 256 + b2.toNat) * 256 + b1.toNat) * 256 + b0.toNat
      let ok := (1 ≤ n.toNat ∧ n.toNat ≤ 16) ∧ sub.toNat ∈ [1, 2, 3, 4, 6, 8] ∧ base ≤ 80000 ∧
        follow.toNat ≤ 6 ∧ weak.toNat ≤ 31 ∧ normal.toNat ≤ 31 ∧ accent.toNat ≤ 31
      (¬ ok → exec (.writeLaneBase .rig p) s = .next (answer .rig 22 .range [] bare)) ∧
      (ok → ∃ t, exec (.writeLaneBase .rig p) s = .next t ∧ Answered .rig 22 .ok [] s t ∧ Unsealed t ∧
        (∀ k, 1 ≤ k → k ≤ 16 → t.laneBase k =
          if k = n.toNat then
            ⟨sub.toNat, base, if follow = 0 then none else some follow.toNat, weak.toNat, normal.toNat,
              accent.toNat⟩
          else s.laneBase k) ∧
        (∀ k, 1 ≤ k → k ≤ 16 → k ≠ n.toNat → t.lane k = s.lane k) ∧
        ((t.lane n.toNat).offset =
          let sum := (base : Int) + (s.lane n.toNat).trim +
            if follow = 0 then 0 else ((s.feed follow.toNat).latency : Int)
          if sum < 0 then 0 else if 80000 < sum then 80000 else sum.toNat) ∧
        t.store.songs = s.store.songs ∧ t.store.cues = s.store.cues ∧ t.store.roster = s.store.roster ∧
        t.store.patterns = s.store.patterns ∧ t.store.feedBases = s.store.feedBases ∧ t.scu = s.scu ∧
        t.tmu = s.tmu ∧ t.cue = s.cue ∧ t.pdu = s.pdu ∧ t.pbc = s.pbc ∧ t.vu = s.vu ∧ t.now = s.now)) ∧
    (∀ (b3 b2 b1 b0 depth : Byte), Completes .rig 23 p [n, b3, b2, b1, b0, depth] s →
      let high := ((b3.toNat * 256 + b2.toNat) * 256 + b1.toNat) * 256 + b0.toNat
      let ok := (1 ≤ n.toNat ∧ n.toNat ≤ 6) ∧ high ≤ 200000 ∧ depth.toNat ≤ 6
      (¬ ok → exec (.writeFeedBase .rig p) s = .next (answer .rig 23 .range [] bare)) ∧
      (ok → ∃ t, exec (.writeFeedBase .rig p) s = .next t ∧ Answered .rig 23 .ok [] s t ∧ Unsealed t ∧
        (∀ k, 1 ≤ k → k ≤ 6 → t.feedBase k =
          if k = n.toNat then ⟨high, depth.toNat⟩ else s.feedBase k) ∧
        (∀ k, 1 ≤ k → k ≤ 6 → t.feed k =
          if k = n.toNat then { s.feed k with high := decide (high < (s.feed k).latency) } else s.feed k) ∧
        t.store.songs = s.store.songs ∧ t.store.cues = s.store.cues ∧ t.store.roster = s.store.roster ∧
        t.store.patterns = s.store.patterns ∧ t.store.laneBases = s.store.laneBases ∧ t.scu = s.scu ∧
        t.tmu = s.tmu ∧ t.cue = s.cue ∧ t.pdu = s.pdu ∧ t.pbc = s.pbc ∧ t.clu = s.clu ∧ t.now = s.now))

/-- WRITE_CUE that passes its checks adds the cue with no marks and unseals the store; one that fails R62's content
checks, or holds an action of a kind R61 does not give, is RANGE, and one with no room FULL. DELETE_CUE removes the
entry, moves the GO pointer off it to the next GO cue of its song, and ends a standby of it. Every other entry stays
(R25, R61 to R63). What a good entry is rests on readings of the model beside R62's own words: a payload that cannot be
read (log entry 26), an overlay mask with a bit above 4 (log entry 28) and a lane or feed set with bit 0 (log entry
30) are RANGE. -/
def Obligations.CueWritesAddOrRemoveOneEntry : Prop :=
  ∀ (p whole : List Byte) (s : State), s.store.locked = false →
    (s.scu.showState = .dark ∨ s.scu.showState = .hold) →
    (∀ ok c, cueOperand whole = some (ok, c) → Completes .rig 19 p whole s →
      let good := ok = true ∧ (1 ≤ c.id ∧ c.id ≤ 9999) ∧ (∀ e ∈ s.store.cues, e.cue.id ≠ c.id) ∧
        (1 ≤ c.actions.length ∧ c.actions.length ≤ 16) ∧ (∀ a ∈ c.actions, ActionInRange a) ∧
        ∃ g, s.store.song c.song = some g ∧ CueFits g c
      let room := s.store.cues.length < 512 ∧ s.store.actionsUsed + c.actions.length ≤ 2048
      (¬ good → exec (.writeCue .rig p) s = .next (answer .rig 19 .range [] (taken .rig s))) ∧
      (good → ¬ room → exec (.writeCue .rig p) s = .next (answer .rig 19 .full [] (taken .rig s))) ∧
      (good → room → ∃ t, exec (.writeCue .rig p) s = .next t ∧ Answered .rig 19 .ok [] s t ∧ Unsealed t ∧
        (∀ id, t.store.cue id = if id = c.id then some ⟨c, none, false⟩ else s.store.cue id) ∧
        t.store.cues.length = s.store.cues.length + 1 ∧ t.store.songs = s.store.songs ∧
        t.store.patterns = s.store.patterns ∧ t.store.roster = s.store.roster ∧
        t.store.laneBases = s.store.laneBases ∧ t.store.feedBases = s.store.feedBases ∧ t.scu = s.scu ∧
        t.tmu = s.tmu ∧ t.cue = s.cue ∧ t.pdu = s.pdu ∧ t.pbc = s.pbc ∧ t.clu = s.clu ∧ t.vu = s.vu ∧
        t.now = s.now)) ∧
    (∀ b b' : Byte, Completes .rig 20 p [b, b'] s →
      let id := b.toNat * 256 + b'.toNat
      ((id = 0 ∨ 9999 < id) →
        exec (.deleteCue .rig p) s = .next (answer .rig 20 .range [] (taken .rig s))) ∧
      (1 ≤ id → id ≤ 9999 → s.store.cue id = none →
        exec (.deleteCue .rig p) s = .next (answer .rig 20 .notFound [] (taken .rig s))) ∧
      ∀ e, 1 ≤ id → id ≤ 9999 → s.store.cue id = some e →
        ∃ t, exec (.deleteCue .rig p) s = .next t ∧ Answered .rig 20 .ok [] s t ∧ Unsealed t ∧
          (∀ k, t.store.cue k = if k = id then none else s.store.cue k) ∧
          t.cue = { s.cue with
            goPointer :=
              if s.cue.goPointer = some id then
                s.store.firstGo e.cue.song (fun c => decide (id < c.id))
              else s.cue.goPointer
            standby := if s.cue.standby = some id then none else s.cue.standby } ∧
          t.vu = { s.vu with
            standby := if s.cue.standby = some id then none else s.vu.standby } ∧
          t.store.songs = s.store.songs ∧ t.store.patterns = s.store.patterns ∧
          t.store.roster = s.store.roster ∧ t.store.laneBases = s.store.laneBases ∧
          t.store.feedBases = s.store.feedBases ∧ t.scu = s.scu ∧ t.tmu = s.tmu ∧ t.pdu = s.pdu ∧
          t.pbc = s.pbc ∧ t.clu = s.clu ∧ t.now = s.now)

/-- WRITE_ROSTER of at most 14 different addresses of 1-14 sets the roster, unseals the store, and makes each
station it drops ABSENT with offset none, patches unknown and an empty queue; every other station and queue
stays. The entries dropped are outstanding no more, and the show, DARK or HOLD, stays as it is. An address out of range
or repeated is RANGE (R7, R98, R100, R114). -/
def Obligations.RosterWriteDropsStations : Prop :=
  ∀ (p addresses : List Byte) (s : State), s.store.locked = false →
    (s.scu.showState = .dark ∨ s.scu.showState = .hold) → s.pbc.stations.length = 14 →
    s.pdu.queues.length = 14 → (∀ n, ∀ e ∈ s.queue n, e.station = n) → addresses.length < 256 →
    Completes .rig 21 p (be 1 addresses.length ++ addresses) s →
    let good := (∀ a ∈ addresses, 1 ≤ a.toNat ∧ a.toNat ≤ 14) ∧ addresses.Nodup
    let listed (n : Nat) : Prop := ∃ a ∈ addresses, a.toNat = n
    (¬ good → exec (.writeRoster .rig p) s = .next (answer .rig 21 .range [] (taken .rig s))) ∧
    (good → ∃ t, exec (.writeRoster .rig p) s = .next t ∧ Answered .rig 21 .ok [] s t ∧ Unsealed t ∧
      t.store.roster.Pairwise (· < ·) ∧ (∀ n, n ∈ t.store.roster ↔ listed n) ∧
      (∀ n, 1 ≤ n → n ≤ 14 → n ∈ s.store.roster → ¬ listed n →
        (t.station n).state = .absent ∧ (t.station n).offset = none ∧
        (t.station n).patches = List.replicate 8 none ∧ (t.station n).streak = 0 ∧
        (t.station n).goodProbes = 0 ∧ (t.station n).lossCounter = 0 ∧ (t.station n).starved = false ∧
        (t.station n).nextProbe = none ∧ (t.station n).nextPoll = none ∧ t.queue n = []) ∧
      (∀ n, 1 ≤ n → n ≤ 14 → ¬ (n ∈ s.store.roster ∧ ¬ listed n) →
        t.station n = s.station n ∧ t.queue n = s.queue n) ∧
      (DispatchInv s → t.pdu.outstanding = (t.pdu.queues.map resolutionsIn).sum) ∧
      t.store.songs = s.store.songs ∧ t.store.cues = s.store.cues ∧ t.store.patterns = s.store.patterns ∧
      t.store.laneBases = s.store.laneBases ∧ t.store.feedBases = s.store.feedBases ∧ t.scu = s.scu ∧
      t.tmu = s.tmu ∧ t.cue = s.cue ∧ t.clu = s.clu ∧ t.vu = s.vu ∧ t.now = s.now)

/-- SEAL computes the CRC-16 of the store image and carries it as its data. Equal to the expected CRC, it
seals the store with check state GOOD and READY asserted, and begins a background pass of 200,000 µs;
different, it is answered CRC_MISMATCH, and a sealed store becomes unsealed as at a write. The other links have
no right to it (R190). -/
def Obligations.SealConfirmsTheImage : Prop :=
  (∀ (l : Link) (p whole : List Byte) (s : State), l ≠ .rig → Completes l 24 p whole s →
    exec (.seal l p) s = .next (answer l 24 .refusedRight []
      ((taken l s).onLink l fun r => { r with refusals := satInc r.refusals }))) ∧
  ∀ (p : List Byte) (b b' : Byte) (s : State), Completes .rig 24 p [b, b'] s →
    let crc := s.store.crc
    let expected := b.toNat * 256 + b'.toNat
    ∃ t, exec (.seal .rig p) s = .next t ∧
      Answered .rig 24 (if crc = expected then .ok else .crcMismatch) (be 2 crc) s t ∧
      (crc = expected →
        t.store = { s.store with
          sealedCrc := some crc, mismatch := false, ready := true, passRead := 0, passMissed := []
          passEnd := some (s.now + 200000) } ∧
        t.holds .storeUnsealed = false ∧ t.holds .storeCrc = false) ∧
      (crc ≠ expected → s.store.sealedCrc = none → t.store = s.store) ∧
      (crc ≠ expected → s.store.sealedCrc ≠ none → Unsealed t ∧
        t.store = { s.store with
          sealedCrc := none, mismatch := false, ready := false, passRead := 0, passMissed := []
          passEnd := none }) ∧
      t.scu = s.scu ∧ t.tmu = s.tmu ∧ t.cue = s.cue ∧ t.pdu = s.pdu ∧ t.pbc = s.pbc ∧ t.clu = s.clu ∧
      t.vu = s.vu ∧ t.now = s.now

/-- The end of a background pass counts it and begins the next 200,000 µs later; a CRC that differs from the
sealed one makes the check state MISMATCH, deasserts READY, sets STORE_CRC, counts a mismatch and is kept as
the last failing CRC. A storage fault changes the image's byte, no other byte of the image, and neither the seal record
nor READY; the pass in progress reads each byte once in image order: a fault finds it no further back than the one
before, and keeps the old byte for it where it had come past the place (R191; how a fault names its byte is log entry
47, how far the pass had come log entry 4). -/
def Obligations.BackgroundPassComparesTheImage : Prop :=
  ∀ (s : State), s.inReset = false →
    (∀ e, s.store.passEnd = some e → e ≤ s.now → s.store.sealedCrc ≠ none →
      ∃ t, exec .backgroundPassEnd s = .next t ∧ t.store.passes = s.store.passes + 1 ∧
        t.store.passEnd = some (e + 200000) ∧ t.store.passRead = 0 ∧ t.store.passMissed = [] ∧
        t.store.sealedCrc = s.store.sealedCrc ∧
        (s.store.sealedCrc = some s.store.passCrc →
          t.store.mismatch = s.store.mismatch ∧ t.store.ready = s.store.ready ∧
          t.store.mismatches = s.store.mismatches ∧ t.store.lastFailing = s.store.lastFailing ∧
          t.lku = s.lku) ∧
        (s.store.sealedCrc ≠ some s.store.passCrc →
          t.store.mismatch = true ∧ t.store.ready = false ∧ t.holds .storeCrc = true ∧
          t.store.mismatches = s.store.mismatches + 1 ∧ t.store.lastFailing = some s.store.passCrc) ∧
        t.store.songs = s.store.songs ∧ t.store.cues = s.store.cues ∧ t.scu = s.scu ∧ t.tmu = s.tmu ∧
        t.cue = s.cue ∧ t.pdu = s.pdu ∧ t.pbc = s.pbc ∧ t.clu = s.clu ∧ t.vu = s.vu ∧ t.now = s.now) ∧
    (∀ (part : StorePart) (o : Nat) (v old : Byte), (s.store.partBytes part)[o]? = some old → old ≠ v →
      part ∈ s.store.parts →
      ∃ t, exec (.storageFault part o v) s = .next t ∧
        t.store.partBytes part = (s.store.partBytes part).set o v ∧ t.store.parts = s.store.parts ∧
        (∀ q ∈ s.store.parts, q ≠ part → t.store.partBytes q = s.store.partBytes q) ∧ sameSeal s t ∧ t.lku = s.lku ∧
        s.store.passRead ≤ t.store.passRead ∧
        (let place := ((s.store.parts.takeWhile fun x => x != part).flatMap s.store.partBytes).length + o
        t.store.passMissed =
          if s.store.passEnd.isSome = true ∧ place < t.store.passRead then
            s.store.passMissed ++ [(part, o, old)]
          else s.store.passMissed) ∧
        t.scu = s.scu ∧ t.tmu = s.tmu ∧ t.cue = s.cue ∧ t.pdu = s.pdu ∧ t.pbc = s.pbc ∧ t.clu = s.clu ∧
        t.vu = s.vu ∧ t.now = s.now)

/-! ## Frames and lines of the master links -/

/-- A bad frame, a frame whose framing error is judged and a frame cut short by the 100 µs gap are answered
with one BAD_FRAME of code 0, counted, and leave the link in HUNT; an open run is abandoned under the same
answer and its code discarded. A gap while hunting is no event of a frame (R173, R175). -/
def Obligations.BadFramesGetOneAnswer : Prop :=
  ∀ (l : Link) (s : State), s.inReset = false → settled l s → (s.lku.link l).responses.length < 8 →
    let t := answer l 0 .badFrame [] (s.onLink l fun r =>
      { r with
        recv := .hunt, run := none, badFrames := satInc r.badFrames
        discarding := match r.run with
          | some x => some x.code
          | none => r.discarding })
    exec (.badFrame l) s = .next t ∧ exec (.framingErrorJudge l) s = .next t ∧
      ((s.lku.link l).recv = .frame → exec (.frameGapTimeout l) s = .next t) ∧
      ((s.lku.link l).recv = .hunt → exec (.frameGapTimeout l) s = .next s)

/-- A frame with the continuation flag opens a run, or adds its payload to the open run of its code; past 2,048
bytes the run is abandoned with one BAD_FRAME and its code discarded, and a frame of another code abandons the
run with one BAD_FRAME and opens its own. A frame of the discarded code is discarded, the last one ending the
discard. In HUNT a SYNC byte opens a frame and any other byte is counted. A break returns the link to HUNT, drops
run and discard without a response, empties the notice queue, clears the captured conditions and is counted; the
rest is kept (R172, R174, R175). -/
def Obligations.RunsAndBreaksSetReception : Prop :=
  (∀ (l : Link) (code : Byte) (p : List Byte) (s : State), s.inReset = false → settled l s →
    let r := s.lku.link l
    (r.discarding = none → r.run = none → exec (.runFrame l code p) s = .next
      (s.onLink l fun r => { r with recv := .hunt, run := some ⟨code, p⟩ })) ∧
    (∀ bytes, r.discarding = none → r.run = some ⟨code, bytes⟩ →
      (bytes.length + p.length ≤ 2048 → exec (.runFrame l code p) s = .next
        (s.onLink l fun r => { r with recv := .hunt, run := some ⟨code, bytes ++ p⟩ })) ∧
      (2048 < bytes.length + p.length → r.responses.length < 8 → exec (.runFrame l code p) s = .next
        (answer l 0 .badFrame [] (s.onLink l fun r =>
          { r with
            recv := .hunt, run := none, discarding := some code, badFrames := satInc r.badFrames })))) ∧
    (∀ old bytes, r.discarding = none → r.run = some ⟨old, bytes⟩ → old ≠ code → r.responses.length < 8 →
      exec (.runFrame l code p) s = .next
        ((answer l 0 .badFrame [] (s.onLink l fun r =>
          { r with recv := .hunt, run := none, badFrames := satInc r.badFrames })).onLink l fun r =>
            { r with run := some ⟨code, p⟩ })) ∧
    (r.discarding = some code →
      exec (.discardingRunFrame l code false) s = .next (s.onLink l fun r => { r with recv := .hunt }) ∧
      exec (.discardingRunFrame l code true) s = .next
        (s.onLink l fun r => { r with recv := .hunt, discarding := none })) ∧
    (r.recv = .hunt → ∀ b : Byte, exec (.byteInHunt l b) s = .next
      (s.onLink l fun r =>
        if b = 0xC3 then { r with recv := .frame } else { r with hunted := r.hunted + 1 }))) ∧
  (∀ (l : Link) (s : State), s.inReset = false →
    exec (.linkBreak l) s = .next (s.onLink l fun r =>
      { r with
        recv := .hunt, run := none, discarding := none, notices := [], captured := 0
        breaks := satInc r.breaks }))

/-- A free transmit side begins the oldest response, or, with none, the oldest notice, which leaves its queue; its last
byte is out 10 µs for each byte later. A busy side begins nothing (R172, R177, R183). A notice raised goes to all three
links, but PANIC to Stage and Podium alone and an UNLISTED station to the Rig: left out where its kind is not enabled,
replacing in place a queued one of its kind and subject, entered last while fewer than 16 are queued, and else dropped,
counted, with NOTICE_LOST captured on that link and latched. An event condition other than NOTICE_LOST is captured on
every link, latched, and told in a CONDITION notice; a state condition that changes is told with its latched bit (R179,
R182, R183). -/
def Obligations.FreeTransmitSideSendsTheOldest : Prop :=
  (∀ (b : NoticeBody) (s : State),
    let n : Notice := ⟨b, s.now⟩
    let t := raiseNotice b s
    let goesTo (l : Link) : Prop := match b with
      | .panic _ _ _ => l ≠ .rig
      | .station _ _ .unlisted => l = .rig
      | _ => True
    let same (m : Notice) : Prop := m.body.kind = b.kind ∧ m.body.subject = b.subject
    let lost (l : Link) : Prop := goesTo l ∧ (s.lku.link l).noticeMask.getLsbD b.kind = true ∧
      (∀ m ∈ (s.lku.link l).notices, ¬ same m) ∧ 16 ≤ (s.lku.link l).notices.length
    { t with lku := s.lku } = s ∧ t.lku.current = s.lku.current ∧
      (∀ c, t.lku.latched.getLsbD c = true ↔ s.lku.latched.getLsbD c = true ∨ (c = 11 ∧ ∃ l, lost l)) ∧
      ∀ l, let k := s.lku.link l
        (¬ goesTo l ∨ k.noticeMask.getLsbD b.kind = false → t.lku.link l = k) ∧
        (goesTo l → k.noticeMask.getLsbD b.kind = true →
          (∀ before old after, k.notices = before ++ old :: after → same old →
            (∀ m ∈ before ++ after, ¬ same m) →
            t.lku.link l =
              { k with notices := before ++ n :: after, noticesReplaced := k.noticesReplaced + 1 }) ∧
          ((∀ m ∈ k.notices, ¬ same m) →
            (k.notices.length < 16 → t.lku.link l = { k with notices := k.notices ++ [n] }) ∧
            (16 ≤ k.notices.length → t.lku.link l =
              { k with noticesLost := satInc k.noticesLost, captured := k.captured ||| 0x0800#16 })))) ∧
  (∀ (c : Cond) (s : State),
    (c ∈ [.beatSlip, .patchLate, .patchFail, .busError, .clickClamp, .tempoClamp] →
      raiseEvent c s = raiseNotice (.condition c true true true) (s.onLku fun k =>
      { k with
        stage := { k.stage with captured := k.stage.captured ||| 1#16 <<< c.id }
        podium := { k.podium with captured := k.podium.captured ||| 1#16 <<< c.id }
        rig := { k.rig with captured := k.rig.captured ||| 1#16 <<< c.id }
        latched := k.latched ||| 1#16 <<< c.id })) ∧
    ∀ v : Bool, (s.lku.current.getLsbD c.id = v → setCondition c v s = s) ∧
      (s.lku.current.getLsbD c.id ≠ v →
        let t := s.onLku fun k =>
          { k with
            current := if v then k.current ||| 1#16 <<< c.id else k.current &&& ~~~(1#16 <<< c.id)
            latched := if v then k.latched ||| 1#16 <<< c.id else k.latched }
        setCondition c v s = raiseNotice (.condition c false v (t.lku.latched.getLsbD c.id)) t)) ∧
  ∀ (l : Link) (s : State), s.inReset = false →
    let k := s.lku.link l
    let free := ∀ x, k.tx = some x → x.endTime ≤ s.now ∧ x.reboots = false
    (free → ∀ r rest, k.responses = r :: rest → exec (.responseSend l) s = .next
      (s.onLink l fun k =>
        { k with responses := rest, tx := some ⟨r.bytes, s.now + 10 * r.bytes.length, r.reboots⟩ })) ∧
    (free → k.responses = [] → ∀ n rest, k.notices = n :: rest → exec (.noticeSend l) s = .next
      (s.onLink l fun k =>
        { k with
          notices := rest, noticesSent := k.noticesSent + 1
          tx := some ⟨n.bytes, s.now + 10 * n.bytes.length, false⟩ })) ∧
    (∀ x, k.tx = some x → s.now < x.endTime → s.now < timeMax →
      exec (.responseSend l) s = .next s ∧ exec (.noticeSend l) s = .next s)

/-! ## Hand-overs -/

/-- The CLU takes a beat of COUNT_IN and of RUNNING on each sounding lane: its clicks at or after G + E are dropped and
counted, and the beat's clicks join it: the count pattern's at G + E, or s clicks at G + j·(P/s) + E with the
pattern's accents through the lane's own levels, a level of 0 being left out. Those whose time is reached sound at
once, in order, the last one's burst standing. A muted lane keeps what it holds. A beat delivered with DARK, at song
end, drops of every lane the clicks at or after G + E. HOLD entry is the statement on hand-overs (R127, R130 to R135).
What a storage fault alone leaves is the model's choice: a subdivision or level out of range by log entry 83, an accent
level above 3, a pattern id above 15 and a beat above 12 by 93. -/
def Obligations.BeatSchedulesClicks : Prop :=
  ∀ (s : State) (g : GridBeat) (rest : List HandOver) (d : Place), s.inReset = false →
    s.clu.hands = .beat g :: rest → s.clu.lanes.length = 16 → s.now < timeMax →
    (∀ n ∈ s.clu.lanes, n.ascending) →
    (g.showState = .countIn ∨ g.showState = .running → g.position.place = some d) →
    (g.showState = .countIn ∨ g.showState = .running ∨ g.showState = .dark) →
    ∃ t, exec .clickSchedule s = .next t ∧ t.clu.hands = rest ∧ t.clu.frame = s.clu.frame ∧ t.scu = s.scu ∧
      t.tmu = s.tmu ∧ t.store = s.store ∧ t.cue = s.cue ∧ t.pdu = s.pdu ∧ t.pbc = s.pbc ∧ t.vu = s.vu ∧
      t.lku = s.lku ∧
      ∀ n, 1 ≤ n → n ≤ 16 →
        let lane := s.lane n
        let b := s.laneBase n
        let from_ := g.time + lane.offset
        let before := lane.schedule.filter fun c => decide (c.time < from_)
        let cut := satAdd lane.dropped (lane.schedule.filter fun c => decide (from_ ≤ c.time)).length
        let level (a : Nat) : Nat :=
          if a = 1 then b.weak else if a = 2 then b.normal else if a = 3 then b.accent else 0
        let joined (clicks : List Click) : Prop :=
          let all := before ++ clicks.filter fun c => decide (0 < c.level)
          let due := all.filter fun c => decide (c.time ≤ s.now)
          all.length ≤ 24 → t.lane n = { lane with
            schedule := all.filter fun c => decide (s.now < c.time)
            burst := match due.getLast? with
              | none => lane.burst
              | some c => some ⟨c.level, c.accent, s.now + 10000⟩
            sounded := lane.sounded + BitVec.ofNat 32 due.length
            dropped := cut }
        (g.showState = .dark → t.lane n = { lane with schedule := before, dropped := cut }) ∧
        (g.showState ≠ .dark → lane.muted = true → t.lane n = lane) ∧
        (g.showState = .countIn → lane.muted = false →
          let a := if d.beat = 1 then 3 else 2
          joined [⟨from_, true, a, level a⟩]) ∧
        (g.showState = .running → lane.muted = false →
          ∀ slot x, s.store.segmentOf d = some x →
            slot = s.store.patterns.getD (lane.override.getD x.pattern) default →
            (b.subdivision ≤ 1 ∨ 0 < g.period / b.subdivision) →
            joined ((List.range b.subdivision).map fun j =>
              let a := if j = 0 then slot.accents.getD (d.beat - 1) 0 else slot.sub
              ⟨g.time + j * (g.period / b.subdivision) + lane.offset, j == 0, a, level a⟩))

/-- The PDU recomputes each QUEUED entry of land form POSITION at a delivered beat: N + (k - 1)·P with k beats
to go in the entry's song, segment and pass in RUNNING; G, form TIME and no land position, when k is 0 or less or the
place or state differs, as at song end to DARK. A QUEUED entry of form NEXT_DOWNBEAT takes G and TIME at a downbeat,
N + (m - b)·P at another beat of COUNT_IN and RUNNING. Every other entry stays (R79, R84, R85). A NEXT_DOWNBEAT entry
that a rejoin returned to QUEUED is taken alike by log entry 57, and m is the meter of the delivered position's segment
by log entry 87; a negative m - b, which a storage fault alone leaves, counts as 0 by log entry 93. -/
def Obligations.BeatRecomputesLands : Prop :=
  ∀ (s : State) (g : GridBeat) (rest : List HandOver) (d : Place) (x : Segment) (n st : Nat),
    s.inReset = false → s.pdu.hands = .beat g :: rest → g.position.place = some d →
    s.store.segmentOf d = some x →
    ((g.showState = .countIn ∨ g.showState = .running) ∧ s.tmu.nextBeat = some n ∨ g.showState = .dark) →
    1 ≤ st → st ≤ 14 → s.pdu.queues.length = 14 →
    ∃ t, exec .landRecompute s = .next t ∧ t.pdu.hands = rest ∧
      (t.queue st).length = (s.queue st).length ∧ t.pdu.outstanding = s.pdu.outstanding ∧
      t.pdu.closures = s.pdu.closures ∧ t.scu = s.scu ∧ t.tmu = s.tmu ∧ t.store = s.store ∧ t.cue = s.cue ∧
      t.pbc = s.pbc ∧ t.clu = s.clu ∧ t.vu = s.vu ∧ t.lku = s.lku ∧
      ∀ e ∈ s.queue st,
        (e.state ≠ .queued ∨ e.form = .now ∨ e.form = .time → e ∈ t.queue st) ∧
        (∀ p, e.state = .queued → e.form = .position → e.landPlace = some p →
          let k := (((p.bar : Int) - x.firstBar) * x.meter + (p.beat - 1 : Int)) -
            (((d.bar.toNat : Int) - x.firstBar) * x.meter + (d.beat - 1 : Int))
          if 1 ≤ k ∧ g.showState = .running ∧ d.song = p.song ∧ d.segment = p.segment ∧
              g.position.pass = p.pass then
            { e with landTime := n + (k.toNat - 1) * (s.tmu.p16 / 16) } ∈ t.queue st
          else { e with landTime := g.time, form := .time, landPlace := none } ∈ t.queue st) ∧
        (e.state = .queued → e.form = .nextDownbeat →
          if g.downbeat = false ∧ g.showState ≠ .dark then
            { e with landTime := n + (x.meter - d.beat) * (s.tmu.p16 / 16) } ∈ t.queue st
          else { e with landTime := g.time, form := .time, landPlace := none } ∈ t.queue st)

/-- At a grid beat delivered with RUNNING the CUE runs the POSITION cues of the position's song whose firing
point is the delivered bar and beat and whose mark lets them fire, and the due-at-start ones at the first such
event: each takes the pass as its fired mark and is counted, and no other entry changes. Where one cue fires and has one
action, that action has its effect and leaves the other blocks as they are: LANE sets its lanes' mute with source CUE,
a mute dropping their scheduled clicks, and their override; FEED sets its feeds' overlay and source as SET_FEED does;
VAMP_EXIT arms the exit in RUNNING within a vamp segment, and elsewhere changes nothing; TEMPO in RUNNING overrides the
segment as TEMPO does, and outside it changes nothing; PATCH with land AT_CUE, for a joined station with no entries,
makes one of land form POSITION at the cue's place in the delivered pass, with land time G + k × P for the k beats from
the delivered beat to that place, which are the cue's lead beats unless it was due at start (R34, R44, R46, R68 to R74,
R83, R141). That the mark is the delivered pass, where R68 names the position record's, is the model's choice (log entry
56), and so are the delivered segment and pass of a POSITION land (log entry 71) and the test for the first RUNNING
event, the mark `startDue` of the CUE (log entry 35); a beat moved to before now stands at now by log entry 12; a
meter of 0 and a negative number of beats to go, which a storage fault alone leaves, count by log entry 93, and a cue
whose segment such a fault has taken away fires by log entry 89. -/
def Obligations.PositionalFiringRunsTheCuesThatAreDue : Prop :=
  ∀ (s : State) (g : GridBeat) (rest : List HandOver) (d : Place), s.inReset = false →
    s.cue.hands = .beat g :: rest → g.position.place = some d →
    (s.store.cues.map fun e => e.cue.id).Nodup →
    (g.showState = .running → ∃ t, exec .positionalFiring s = .next t ∧ t.cue.hands = rest ∧
      t.store.cues = (s.store.cues.map fun e =>
        if firesNow s d g.position.pass e then { e with fired := some g.position.pass, dueAtStart := false }
        else e) ∧
      { t.store with cues := s.store.cues } = s.store ∧
      t.cue.fired = s.cue.fired +
        BitVec.ofNat 32 (s.store.cues.filter (firesNow s d g.position.pass)).length ∧
      t.cue.goPointer = s.cue.goPointer ∧ t.cue.goRun = s.cue.goRun ∧ t.cue.skipped = s.cue.skipped ∧
      t.cue.startDue = false ∧ t.pbc = s.pbc ∧ t.now = s.now ∧
      ∀ e : CueEntry, s.store.cues.filter (firesNow s d g.position.pass) = [e] →
        let vu : Vu := { s.vu with standby := if s.cue.standby = some e.cue.id then none else s.vu.standby }
        t.cue.standby = (if s.cue.standby = some e.cue.id then none else s.cue.standby) ∧
        t.cue.actions = s.cue.actions + BitVec.ofNat 32 e.cue.actions.length ∧
        (∀ (lanes : Mask) (mute : Bool) (pattern : Option Nat), e.cue.actions = [.lane lanes mute pattern] →
          s.clu.lanes.length = 16 →
          (∀ n, 1 ≤ n → n ≤ 16 → t.lane n =
            let l := s.lane n
            if lanes.getLsbD n = true then
              { l with
                muted := mute, source := .cue, override := pattern.or l.override
                schedule := if mute then [] else l.schedule
                dropped := if mute then satAdd l.dropped l.schedule.length else l.dropped }
            else l) ∧
          { t.clu with lanes := s.clu.lanes } = s.clu ∧ t.scu = s.scu ∧ t.tmu = s.tmu ∧ t.pdu = s.pdu ∧ t.vu = vu) ∧
        (∀ (feeds : Mask) (source : Option FeedSource) (overlay : Option Mask),
          e.cue.actions = [.feed feeds source overlay] → s.vu.feeds.length = 6 →
          (∀ n, 1 ≤ n → n ≤ 6 → t.feed n =
            let f := { s.feed n with overlay := overlay.getD (s.feed n).overlay }
            if feeds.getLsbD n = true then
              (match source with
              | none => f
              | some x =>
                let dest : Showing := match x with
                  | .podium => .cam s.tmu.active
                  | .camA => .cam .a
                  | .camB => .cam .b
                  | .black => .black
                let shown : Bool := match dest with
                  | .cam .a => s.vu.camA.live
                  | .cam .b => s.vu.camB.live
                  | .black => true
                if x = f.source then { f with pending := none }
                else if dest = f.showing ∧ shown = true then { f with source := x, pending := none }
                else { f with pending := some x })
            else s.feed n) ∧
          { t.vu with feeds := s.vu.feeds } = vu ∧ t.scu = s.scu ∧ t.tmu = s.tmu ∧ t.pdu = s.pdu ∧ t.clu = s.clu) ∧
        (e.cue.actions = [.vampExit] →
          t.scu = (if s.scu.showState = .running ∧ s.segment.map Segment.vamp = some true then
            { s.scu with position := { s.scu.position with exitArmed := true } } else s.scu) ∧
          t.tmu = s.tmu ∧ t.pdu = s.pdu ∧ t.clu = s.clu ∧ t.vu = vu) ∧
        (∀ fixed : Option Nat, e.cue.actions = [.tempo fixed] →
          t.scu = s.scu ∧ t.pdu = s.pdu ∧ t.clu = s.clu ∧ t.vu = vu ∧
          (s.scu.showState ≠ .running → t.tmu = s.tmu) ∧
          (s.scu.showState = .running → t.tmu.overridden = true ∧ t.tmu.waitingLink = none ∧
            (fixed = none → t.tmu.tempo = (if s.tmu.tempo = .flywheel then .flywheel else .tracking) ∧
              t.tmu.p16 = s.tmu.p16 ∧ t.tmu.nextBeat = s.tmu.nextBeat) ∧
            ∀ p, fixed = some p → s.tmu.pmin ≤ s.tmu.pmax →
              let c := if p < s.tmu.pmin then s.tmu.pmin else if s.tmu.pmax < p then s.tmu.pmax else p
              t.tmu.tempo = .fixed ∧ t.tmu.p16 = 16 * c ∧ t.tmu.prevMatched = none ∧
              (∀ b ∈ t.tmu.emitted ++ t.tmu.prior.toList, b.check = none ∧ b.mark = none) ∧
              (∀ n, s.tmu.nextBeat = some n →
                t.tmu.nextBeat = some (nowOrLater s.now ((n : Int) + c - (s.tmu.p16 / 16 : Nat)))) ∧
              (c ≠ p → t.lku.latched.getLsbD 14 = true))) ∧
        ∀ (st layer patch bar beat lead : Nat) (every : Bool) (x : Segment),
          e.cue.actions = [.patch st layer patch .atCue] → e.cue.kind = .position bar beat lead every →
          ((s.store.song e.cue.song).bind fun h => h.segmentAt bar) = some x →
          (s.station st).state ≠ .absent → (s.station st).state ≠ .cut → 1 ≤ st → st ≤ 14 →
          s.pdu.queues.length = 14 → s.queue st = [] →
          let k : Int := (((bar : Int) - x.firstBar) * x.meter + ((beat : Int) - 1)) -
            ((d.bar - x.firstBar) * x.meter + ((d.beat : Int) - 1))
          t.queue st = [{
            station := st, layer := layer, patch := patch, origin := .cue, form := .position
            landPlace := some ⟨e.cue.song, bar, beat, d.segment, g.position.pass⟩
            landTime := g.time + k.toNat * g.period, seq := s.pdu.nextSeq }] ∧
          (e.dueAtStart = false → k = lead) ∧ (∀ n, 1 ≤ n → n ≤ 14 → n ≠ st → t.queue n = s.queue n) ∧
          t.pdu.nextSeq = s.pdu.nextSeq + 1 ∧ t.pdu.outstanding = s.pdu.outstanding ∧
          t.scu = s.scu ∧ t.tmu = s.tmu ∧ t.clu = s.clu ∧ t.vu = vu) ∧
    (g.showState ≠ .running → exec .positionalFiring s = .next (s.onCue fun q => { q with hands := rest }))

/-- At HOLD entry the TMU enters IDLE with its period kept; the CLU drops every scheduled click, counting each,
and ends every burst; the CUE drops every due-at-start mark; the PDU closes every QUEUED entry, those of origin
RESOLUTION being outstanding no more, with no change of show state, and sets cancel pending on open CUE entries whose
land is ahead; the VU shows the STOP banner and ends the flash. A show reset is
taken by the TMU, which enters IDLE; by the CUE, which clears its marks, pointer, standby cue and counters; by the
PDU, whose queues empty with its counts at 0; and by the VU, whose panic list empties; the block that takes it last
has RESET_SHOW's OK response formed, showing the show state as it then stands. A delivered beat sets the
VU's flash until G + P/4, in HOLD too (log entry 19), and song end to DARK ends it (R7, R41, R77, R90, R96, R99, R136,
R146, R147, R149, R158, R194). When the response is formed is log entry 23; a land past the time base's last value is
log entry 88. -/
def Obligations.HoldEntryAndShowResetAreTaken : Prop :=
  (∀ (s : State) (id : Nat) (o : Origin) (rest : List HandOver), s.inReset = false →
    (s.tmu.hands = .hold id o :: rest → ∃ t, exec .tmuHoldEntry s = .next t ∧ t.tmu.hands = rest ∧
      enteredIdle s t ∧ t.clu = s.clu ∧ t.cue = s.cue ∧ t.pdu = s.pdu ∧ t.pbc = s.pbc ∧ t.scu = s.scu ∧
      t.store = s.store ∧ t.now = s.now) ∧
    (s.clu.hands = .hold id o :: rest → exec .cluHoldEntry s = .next (s.onClu fun c =>
      { c with
        hands := rest
        lanes := c.lanes.map fun l =>
          { l with schedule := [], burst := none, dropped := satAdd l.dropped l.schedule.length } })) ∧
    (s.cue.hands = .hold id o :: rest → exec .cueHoldEntry s = .next
      ((s.onCue fun q => { q with hands := rest }).onStore fun st =>
        { st with cues := st.cues.map fun e => { e with dueAtStart := false } })) ∧
    (s.pdu.hands = .hold id o :: rest → s.scu.showState = .hold → s.pdu.queues.length = 14 →
      (∀ n, ∀ e ∈ s.queue n, e.station = n) →
      ∃ t, exec .pduHoldEntry s = .next t ∧ t.pdu.hands = rest ∧ t.scu = s.scu ∧ t.tmu = s.tmu ∧
        t.clu = s.clu ∧ t.cue = s.cue ∧ t.vu = s.vu ∧ t.store = s.store ∧ t.pbc = s.pbc ∧ t.now = s.now ∧
        ResolutionsClosed (s.pdu.queues.map fun q => resolutionsIn (q.filter fun e => e.state == .queued)).sum s t ∧
        ∀ n, 1 ≤ n → n ≤ 14 →
          t.queue n = ((s.queue n).filter fun e => e.state != .queued).map fun e =>
            if e.origin = .cue then
              (if s.now < e.landTime then
                { e with
                  resendDue := false, held := true, cancelPending := true, cancelOffered := true
                  cancelResends := 0 }
              else { e with resendDue := false, held := true })
            else e) ∧
    (s.vu.hands = .hold id o :: rest → exec .vuHoldEntry s = .next (s.onVu fun v =>
      { v with hands := rest, banner := some (id, o), flash := none }))) ∧
  (∀ (s : State) (rest : List HandOver), s.inReset = false →
    let waiting (t : State) : Prop := .showReset ∈ t.tmu.hands ∨ .showReset ∈ t.cue.hands ∨
      .showReset ∈ t.pdu.hands ∨ .showReset ∈ t.vu.hands
    let finished (t : State) : Prop :=
      (s.lku.resetOwed = true → ¬ waiting t → Answered .rig 27 .ok [] s t ∧ t.lku.resetOwed = false) ∧
      (s.lku.resetOwed = false ∨ waiting t →
        t.lku.rig.responses = s.lku.rig.responses ∧ t.lku.resetOwed = s.lku.resetOwed)
    let after (t u : State) : Prop := { u with lku := s.lku } = t ∧ finished u ∧
      ((s.lku.resetOwed = false ∨ waiting u) → u.lku = s.lku) ∧
      (∀ l, l ≠ .rig → u.lku.link l = s.lku.link l) ∧ u.lku.latched = s.lku.latched ∧
      u.lku.current = s.lku.current
    (s.tmu.hands = .showReset :: rest → ∃ t, exec .tmuShowReset s = .next t ∧ t.tmu.hands = rest ∧
      enteredIdle s t ∧ t.clu = s.clu ∧ t.cue = s.cue ∧ t.pdu = s.pdu ∧ t.pbc = s.pbc ∧ t.scu = s.scu ∧
      t.store = s.store ∧ finished t ∧ t.now = s.now) ∧
    (s.cue.hands = .showReset :: rest → ∃ u, exec .cueShowReset s = .next u ∧ after
      { s with
        cue := { s.cue with
          hands := rest, goPointer := none, standby := none, goRun := 0, fired := 0, skipped := 0, actions := 0 }
        vu := { s.vu with standby := none }
        store := { s.store with
          cues := s.store.cues.map fun e => { e with fired := none, dueAtStart := false } } } u) ∧
    (s.pdu.hands = .showReset :: rest → ∃ u, exec .pduShowReset s = .next u ∧ after (s.onPdu fun d =>
      { d with
        hands := rest, queues := d.queues.map fun _ => [], outstanding := 0
        closures := d.closures.map fun _ => default }) u) ∧
    (s.vu.hands = .showReset :: rest → ∃ t, exec .vuShowReset s = .next t ∧
      t.vu = { s.vu with hands := rest, panic := [] } ∧ t.holds .panic = false ∧ finished t ∧ t.scu = s.scu ∧
      t.tmu = s.tmu ∧ t.store = s.store ∧ t.cue = s.cue ∧ t.pdu = s.pdu ∧ t.pbc = s.pbc ∧ t.clu = s.clu) ∧
    ∀ (g : GridBeat) (d : Place), s.vu.hands = .beat g :: rest → g.position.place = some d →
      exec .beatFlash s = .next (s.onVu fun v =>
        { v with
          hands := rest
          flash := if g.showState = .dark then none
            else some ⟨d.beat, g.downbeat, g.time + g.period / 4⟩ }))

/-! ## The pit bus -/

/-- After start-up the first frame on a free bus is the broadcast poll, with no reply window. Otherwise the
arbiter ranks a POLL to the lowest starved station first, then the CANCEL and then the APPLY with the earliest land
time, at equal land times of the lowest station address, then a due PROBE with JOINING stations first, then a due
recovery POLL. Of a station's queue the first entry that may be sent by R86 is the one offered. The bus is free with no
exchange and no header on it and its free time reached; a PROBE is due to a JOINING, READY or SUSPECT station and a
recovery POLL to a CUT one of the roster (R1, R86, R90, R104, R107 to R109, R118, R119). Of two CANCELs of one station
and land the first in queue order is log entry 61, left out here. The time the broadcast poll holds the bus is the
model's rounding (log entry 14). -/
def Obligations.ArbiterFollowsItsOrder : Prop :=
  ∀ s : State,
    (s.inReset = false → s.pbc.broadcastDue = true → busIsFree s = true →
      exec .broadcastPoll s = .next (s.onPbc fun b =>
        { b with
          lastFrame := some (0, .broadcastPoll), broadcastDue := false, freeAt := s.now + 12 + 20
          atOnce := false })) ∧
    (s.pbc.broadcastDue = false →
      let starved (n : Nat) : Prop := (s.station n).starved = true ∧ (s.station n).state.joined = true
      let cancels (n : Nat) (e : Entry) : Prop :=
        e ∈ s.queue n ∧ e.isOpen = true ∧ e.cancelPending = true ∧ e.cancelOffered = true
      let cancel (n : Nat) : Prop := ∃ e, cancels n e
      let first (c : Nat → Entry → Prop) (n : Nat) (e : Entry) : Prop := (1 ≤ n ∧ n ≤ 14) ∧ c n e ∧
        ∀ m d, 1 ≤ m → m ≤ 14 → c m d → e.landTime < d.landTime ∨ e.landTime = d.landTime ∧ n ≤ m
      let among (q : Nat → Prop) : Prop := ∃ n, 1 ≤ n ∧ n ≤ 14 ∧ q n
      let least (q : Nat → Prop) (n : Nat) : Prop :=
        1 ≤ n ∧ n ≤ 14 ∧ q n ∧ ∀ m, 1 ≤ m → m < n → ¬ q m
      let offered (n : Nat) : Prop := (s.offer n).isSome = true
      let joining (n : Nat) : Prop := probeIsDue s n = true ∧ (s.station n).state = .joining
      (∀ n, least starved n → arbiter s = some ⟨n, .poll false, none⟩) ∧
      (¬ among starved → among cancel → ∃ e, arbiter s = some ⟨e.station, .cancel e.layer e.patch, some e⟩ ∧
        ∃ n, first cancels n e) ∧
      (¬ among starved → ¬ among cancel → among offered →
        ∃ e, arbiter s = some ⟨e.station, applyFrame s e, some e⟩ ∧
          ∃ n, first (fun m d => s.offer m = some d) n e) ∧
      (¬ among starved → ¬ among cancel → ¬ among offered →
        (∀ n, least joining n → arbiter s = some ⟨n, .probe, none⟩) ∧
        (¬ among joining → ∀ n, least (fun n => probeIsDue s n = true) n →
          arbiter s = some ⟨n, .probe, none⟩) ∧
        (¬ among (fun n => probeIsDue s n = true) →
          (∀ n, least (fun n => recoveryIsDue s n = true) n → arbiter s = some ⟨n, .poll true, none⟩) ∧
          (¬ among (fun n => recoveryIsDue s n = true) → arbiter s = none)))) ∧
    (∀ n, (∀ e ∈ s.queue n, e.station = n) →
      ((∀ e ∈ s.queue n, ¬ MayBeSent s n e) → s.offer n = none) ∧
      ∀ before e after, s.queue n = before ++ e :: after → MayBeSent s n e →
        (∀ d ∈ before, ¬ MayBeSent s n d) → s.offer n = some e) ∧
    (s.now < timeMax →
      (busIsFree s = true ↔ s.pbc.exchange = none ∧ s.pbc.attention = none ∧ s.pbc.freeAt ≤ s.now) ∧
      ∀ n, let k := s.station n
        (probeIsDue s n = true ↔ (k.state = .joining ∨ k.state = .ready ∨ k.state = .suspect) ∧
          ∃ x, k.nextProbe = some x ∧ x ≤ s.now) ∧
        (recoveryIsDue s n = true ↔ k.state = .cut ∧ n ∈ s.store.roster ∧ ∃ x, k.nextPoll = some x ∧ x ≤ s.now))

/-- On a free bus the PBC's chosen frame, its header lower than every attention that begins with it, opens its
exchange at its send time: an APPLY makes its entry SENT with its deadlines, timed by the station's offset where it
can land in time and ASAP where it cannot, then late, counted once with PATCH_LATE, or where its land is NOW; a CANCEL
is no longer offered; a PROBE and a recovery POLL set the next one's time, and with them, as with a starved station's
POLL, every dispatch queue stays. Every other entry, and every other field of the entry sent, stay. With a lower
attention, or nothing to send, the lowest attention's header holds the bus, and so does one that begins in the 20 µs of
quiet after an exchange (R86, R88, R103, R104, R108, R118, R119; how long it holds it is log entry 39, and a land time
past the time base's last value is log entry 88). -/
def Obligations.FreeBusSendsTheChosenFrame : Prop :=
  (∀ (s : State) (i : Instr) (rivals : List Nat), s.inReset = false → busIsFree s = true →
    s.pbc.broadcastDue = false → s.pbc.stations.length = 14 →
    (i = .busFree rivals ∨ (∃ n, i = .entrySendable n rivals ∧ (s.offer n).isSome = true) ∨
      (∃ n, i = .probeDue n rivals ∧ probeIsDue s n = true) ∨
      (∃ n, i = .recoveryPollDue n rivals ∧ recoveryIsDue s n = true)) →
    (∀ c, arbiter s = some c → 1 ≤ c.station → c.station ≤ 14 →
      (∀ n ∈ rivals, 1 ≤ n ∧ n ≤ 14 → 2 * c.station < 2 * n + 1) →
      ∃ t, exec i s = .next t ∧ t.pbc.lastFrame = some (c.station, c.frame) ∧
        (∃ q, t.pbc.exchange = some ⟨c.station, c.frame, s.now, q⟩ ∧ ∀ e, c.entry = some e → q = e.seq) ∧
        (t.station c.station).framesSent = (s.station c.station).framesSent + 1 ∧
        (t.station c.station).state = (s.station c.station).state ∧
        (∀ n, 1 ≤ n → n ≤ 14 → n ≠ c.station → t.station n = s.station n ∧ t.queue n = s.queue n) ∧
        (c.frame = .probe ∨ c.frame = .poll false ∨ c.frame = .poll true → t.pdu = s.pdu) ∧
        (c.frame = .probe → (t.station c.station).nextProbe =
          some (s.now + if (s.station c.station).state = .joining then 10000 else 250000)) ∧
        (c.frame = .poll true → (t.station c.station).nextPoll = some (s.now + 1000000)) ∧
        (∀ e layer patch land, c.entry = some e → c.frame = .apply layer patch land →
          e ∈ s.queue c.station → e.station = c.station → s.pdu.closures.length = 14 →
          let r := s.station c.station
          let inTime := s.now + r.lead + r.delay ≤ e.landTime
          let count := (nth1 s.pdu.closures c.station).late
          { t.pdu with queues := s.pdu.queues, closures := s.pdu.closures } = s.pdu ∧
          ∃ e' ∈ t.queue c.station,
            e' = { e with
              state := .sent, resendDue := false, ackDeadline := e'.ackDeadline, doneDeadline := e'.doneDeadline
              late := e'.late } ∧
            ((∀ d ∈ s.queue c.station, d.seq = e.seq → d = e) →
              t.queue c.station = (s.queue c.station).map fun d => if d = e then e' else d) ∧
            e'.ackDeadline = some (s.now + 2000) ∧ layer = e.layer ∧ patch = e.patch ∧
            (e.form ≠ .now → inTime → e'.doneDeadline = some (e.landTime + 50000) ∧ e'.late = e.late ∧
              land = some (((e.landTime : Int) + r.offset.getD 0) % 4294967296).toNat ∧
              (nth1 t.pdu.closures c.station).late = count) ∧
            (e.form = .now → land = none ∧ e'.late = e.late ∧
              e'.doneDeadline = some (s.now + r.lead + r.delay + 50000) ∧
              (nth1 t.pdu.closures c.station).late = count) ∧
            (e.form ≠ .now → ¬ inTime → land = none ∧ e'.late = true ∧
              e'.doneDeadline = some (s.now + r.lead + r.delay + 50000) ∧
              (nth1 t.pdu.closures c.station).late = (if e.late = true then count else count + 1) ∧
              (e.late = false → t.lku.latched.getLsbD 4 = true))) ∧
        (∀ e layer patch, c.entry = some e → c.frame = .cancel layer patch → e ∈ s.queue c.station →
          e.station = c.station → layer = e.layer ∧ patch = e.patch ∧
            { t.pdu with queues := s.pdu.queues } = s.pdu ∧
            { e with cancelOffered := false } ∈ t.queue c.station ∧
            ((∀ d ∈ s.queue c.station, d.seq = e.seq → d = e) →
              t.queue c.station = (s.queue c.station).map fun d =>
                if d = e then { e with cancelOffered := false } else d)) ∧
        t.scu = s.scu ∧ t.tmu = s.tmu ∧ t.store = s.store ∧ t.cue = s.cue ∧ t.clu = s.clu ∧ t.vu = s.vu ∧
        t.now = s.now) ∧
    (∀ w ∈ rivals, 1 ≤ w → w ≤ 14 → (∀ n ∈ rivals, 1 ≤ n → n ≤ 14 → w ≤ n) →
      let held := exec i s = .next (s.onPbc fun b => { b with attention := some w })
      (∀ c, arbiter s = some c → 2 * w + 1 < 2 * c.station → held) ∧
      (arbiter s = none → i = .busFree rivals → held)) ∧
    (arbiter s = none → i = .busFree rivals → (∀ n ∈ rivals, ¬ (1 ≤ n ∧ n ≤ 14)) → exec i s = .next s)) ∧
  ∀ (s : State) (w : Nat), s.inReset = false → s.now < timeMax → s.pbc.exchange = none →
    s.pbc.attention = none → s.now < s.pbc.freeAt → 1 ≤ w → w ≤ 14 →
    exec (.busFree [w]) s = .next
      (if s.pbc.freeAt ≤ s.now + 20 then s.onPbc fun b => { b with attention := some w } else s)

/-- The reply to an open exchange ends it. An ACK or NAK gives the station's loss counter its tally. An ACK makes the
SENT entry ACKED and is a success of the station; a NAK of it is a resend within the limit, and at the limit closes
the entry as failed, a failure of the station, with PATCH_FAIL, which cuts the station at the third in a row and its
loss counter with it; of a CUE entry in HOLD, or one that a HOLD entry found
open, it drops the ACK deadline alone. An ACK of a CANCEL closes the entry as discarded and is no success; a NAK of it
leaves the entry. A POLL_REPLY sets the loss counter to 0, adds its tally to the loss total and is a success, which
makes SUSPECT READY and changes no ABSENT or CUT station, or of a CUT station polled for recovery is the entry to
JOINING; the report that it carries, of a roster station, is queued with ACK_REPORT while the queue has room, and else
answered NAK_REPORT; the dispatch queues and every other station stay. A closing that leaves no RESOLUTION entry
outstanding makes PREPARING ARMED (R7, R89, R90, R94, R97, R98, R104, R105, R107, R110, R111, R115 to R118). That a NAK
in HOLD waits as no reply does is log entry 21, and that the answer to a report counts as a frame sent log entry 72. -/
def Obligations.ReplyEndsTheExchange : Prop :=
  (∀ (s : State) (st tally : Nat) (x : Exchange) (e : Entry), s.inReset = false → 1 ≤ st → st ≤ 14 →
    s.pbc.stations.length = 14 → s.pdu.queues.length = 14 → s.pdu.closures.length = 14 →
    s.pbc.exchange = some x → x.station = st → s.queue st = [e] → e.station = st → e.seq = x.seq → tally < 256 →
    let c := nth1 s.pdu.closures st
    let k := s.station st
    let endedWith (loss : Nat) (t : State) : Prop := t.pbc.exchange = none ∧ t.pbc.freeAt = s.now + 20 ∧
      (t.station st).lossCounter = loss ∧ t.pbc.reports = s.pbc.reports ∧
      t.pbc.busErrors = s.pbc.busErrors ∧ t.tmu = s.tmu ∧ t.store = s.store ∧ t.cue = s.cue ∧
      t.clu = s.clu ∧ t.vu = s.vu ∧ t.now = s.now
    let ended (t : State) : Prop := endedWith tally t
    (∀ layer patch land, x.frame = .apply layer patch land → e.state = .sent →
      e.ackDeadline = some (x.sendTime + 2000) →
      let waits := e.held = true ∨ (s.scu.showState = .hold ∧ e.origin = .cue)
      (∃ t, exec (.ack st tally) s = .next t ∧ ended t ∧
        t.queue st = [{ e with state := .acked, ackDeadline := none }] ∧ t.scu = s.scu ∧
        ((s.station st).state = .suspect → (t.station st).state = .ready ∧ (t.station st).streak = 0) ∧
        ((s.station st).state = .ready → (t.station st).state = .ready ∧ (t.station st).streak = 0)) ∧
      (e.resends < s.pdu.resendLimit → ¬ waits →
        ∃ t, exec (.nak st tally) s = .next t ∧ ended t ∧ t.scu = s.scu ∧
          (t.station st).streak = (s.station st).streak ∧
          t.queue st = [{ e with resends := e.resends + 1, resendDue := true, ackDeadline := none }]) ∧
      (s.pdu.resendLimit ≤ e.resends → ¬ waits →
        let cut := (k.state = .joining ∨ k.state = .suspect) ∧ 2 ≤ k.streak
        ∃ t, exec (.nak st tally) s = .next t ∧ endedWith (if cut then 0 else tally) t ∧ t.queue st = [] ∧
          nth1 t.pdu.closures st = { c with failed := c.failed + 1 } ∧ t.lku.latched.getLsbD 5 = true ∧
          (k.state = .ready → (t.station st).state = .suspect ∧ (t.station st).streak = 1) ∧
          (k.state = .joining ∨ k.state = .suspect → k.streak < 2 →
            (t.station st).state = k.state ∧ (t.station st).streak = k.streak + 1) ∧
          (cut → (t.station st).state = .cut) ∧ ResolutionsClosed (resolutionsIn [e]) s t) ∧
      (waits → ∃ t, exec (.nak st tally) s = .next t ∧ ended t ∧ t.scu = s.scu ∧
        (t.station st).state = (s.station st).state ∧ (t.station st).streak = (s.station st).streak ∧
        t.queue st = [{ e with ackDeadline := none, held := true }])) ∧
    (∀ layer patch, x.frame = .cancel layer patch → e.isOpen = true → e.cancelPending = true →
      (∃ t, exec (.ack st tally) s = .next t ∧ ended t ∧ t.queue st = [] ∧
        nth1 t.pdu.closures st = { c with discarded := c.discarded + 1 } ∧
        ResolutionsClosed (resolutionsIn [e]) s t ∧
        (t.station st).state = (s.station st).state ∧ (t.station st).streak = (s.station st).streak) ∧
      (∃ t, exec (.nak st tally) s = .next t ∧ ended t ∧ t.queue st = [e] ∧ t.scu = s.scu))) ∧
  ∀ (s : State) (st tally : Nat) (x : Exchange) (r : Bool), s.inReset = false → 1 ≤ st → st ≤ 14 →
    s.pbc.stations.length = 14 → s.pbc.exchange = some x → x.station = st → x.frame = .poll r →
    let k := s.station st
    let rejoins := r = true ∧ k.state = .cut
    let polled (t : State) : Prop := t.pbc.exchange = none ∧
      (t.station st).lossCounter = 0 ∧ (t.station st).starved = false ∧
      (t.station st).lossTotal = k.lossTotal + BitVec.ofNat 32 tally ∧
      (k.state = .ready ∨ k.state = .suspect → (t.station st).state = .ready ∧ (t.station st).streak = 0) ∧
      (k.state = .joining → (t.station st).state = .joining ∧ (t.station st).streak = 0) ∧
      (rejoins → (t.station st).state = .joining) ∧
      (¬ rejoins → k.state = .absent ∨ k.state = .cut →
        (t.station st).state = k.state ∧ (t.station st).streak = k.streak) ∧
      (∀ n, 1 ≤ n → n ≤ 14 → n ≠ st → t.station n = s.station n) ∧ t.pdu = s.pdu ∧ t.scu = s.scu ∧
      t.tmu = s.tmu ∧ t.store = s.store ∧ t.cue = s.cue ∧ t.clu = s.clu ∧ t.vu = s.vu ∧ t.now = s.now
    (∃ t, exec (.pollReply st tally none) s = .next t ∧ polled t ∧ t.pbc.freeAt = s.now + 20 ∧
      t.pbc.reports = s.pbc.reports ∧
      (rejoins → t.station st = { k with
        state := .joining, offset := none, patches := List.replicate 8 none, streak := 0, goodProbes := 0
        lossCounter := 0, starved := false, nextProbe := some s.now, nextPoll := none
        lossTotal := k.lossTotal + BitVec.ofNat 32 tally })) ∧
    ∀ rep, k.state ≠ .absent → st ∈ s.store.roster →
      ∃ t, exec (.pollReply st tally (some rep)) s = .next t ∧ polled t ∧
        (t.station st).framesSent = k.framesSent + 1 ∧
        (s.pbc.reports.length < 16 → t.pbc.reports = s.pbc.reports ++ [(st, rep)] ∧
          t.pbc.lastFrame = some (st, .ackReport) ∧ (t.station st).reportsTaken = k.reportsTaken + 1) ∧
        (16 ≤ s.pbc.reports.length → t.pbc.reports = s.pbc.reports ∧
          t.pbc.lastFrame = some (st, .nakReport) ∧
          (t.station st).refusedReports = satInc k.refusedReports)

/-- A JOIN of a roster station at the head of the report queue enters it in JOINING with its lead to 200,000 µs, no
offset, unknown patches and a probe due now, a READY or SUSPECT one's open entries back to QUEUED; one of a station
the roster does not list changes no station. A PROBE_REPLY gives the sample D = ((t4 - t1) - (t3 - t2)) / 2 and O = t2
- t1 - D: a round trip above 2,000 µs, a negative hold or a negative D discards it, in a CUT or ABSENT station too. In
JOINING the first good one, with no offset yet, loads offset and delay, a later one moves both through the probe
filter, each counts, and the fourth makes the station READY with streak 0 (R98, R112, R115, R120, R121). -/
def Obligations.JoiningStationIsMeasuredAndReady : Prop :=
  (∀ (s : State) (st lead : Nat) (rest : List (Nat × Report)), s.inReset = false → 1 ≤ st → st ≤ 14 →
    s.pbc.stations.length = 14 → s.pdu.queues.length = 14 → s.pbc.reports = (st, .join lead) :: rest →
    ∃ t, exec .joinReport s = .next t ∧ t.pbc.reports = rest ∧ t.tmu = s.tmu ∧ t.store = s.store ∧
      t.cue = s.cue ∧ t.clu = s.clu ∧ t.vu = s.vu ∧ t.now = s.now ∧
      (∀ k, 1 ≤ k → k ≤ 14 → k ≠ st → t.station k = s.station k) ∧
      (st ∉ s.store.roster → t.pbc.stations = s.pbc.stations ∧ t.pdu = s.pdu ∧ t.scu = s.scu) ∧
      (st ∈ s.store.roster →
        t.station st = { s.station st with
          state := .joining, lead := if lead < 200000 then lead else 200000, offset := none
          patches := List.replicate 8 none, streak := 0, goodProbes := 0, lossCounter := 0
          starved := false, nextProbe := some s.now, nextPoll := none } ∧
        ((s.station st).state = .absent ∨ (s.station st).state = .joining ∨ (s.station st).state = .cut →
          t.pdu = s.pdu ∧ t.scu = s.scu) ∧
        ((s.station st).state = .ready ∨ (s.station st).state = .suspect → s.scu.showState ≠ .hold →
          t.scu = s.scu ∧ t.queue st = (s.queue st).map fun e =>
            if e.state = .sent ∨ e.state = .acked then
              { e with
                state := .queued, resends := 0, cancelPending := false, cancelOffered := false
                ackDeadline := none, doneDeadline := none, resendDue := false, held := false }
            else e))) ∧
  (∀ (s : State) (st tally t2 t3 t4 : Nat) (x : Exchange), s.inReset = false → 1 ≤ st → st ≤ 14 →
    s.pbc.stations.length = 14 → s.pbc.exchange = some x → x.station = st → x.frame = .probe →
    (s.station st).state = .joining →
    let k := s.station st
    let hold : Int := ((t3 : Int) - t2).bmod 4294967296
    let d : Int := (((t4 : Int) - x.sendTime) - hold).tdiv 2
    let sample : Int := ((t2 : Int) - x.sendTime - d).bmod 4294967296
    let part (y : Int) : Int := y.tdiv ((2 ^ s.pbc.probeDepth : Nat) : Int)
    let bad : Prop := 2000 < (t4 : Int) - x.sendTime ∨ hold < 0 ∨ d < 0
    ∃ t, exec (.probeReply st tally t2 t3 t4) s = .next t ∧ t.pbc.exchange = none ∧
      (t.station st).streak = 0 ∧
      (bad → (t.station st).offset = k.offset ∧ (t.station st).delay = k.delay ∧
        (t.station st).state = .joining ∧ (t.station st).goodProbes = k.goodProbes ∧
        (t.station st).discarded = satInc k.discarded) ∧
      (¬ bad →
        (k.offset = none → (t.station st).offset = some sample ∧ (t.station st).delay = d.toNat) ∧
        (∀ o, k.offset = some o →
          (t.station st).offset = some ((o + part ((sample - o).bmod 4294967296)).bmod 4294967296) ∧
          (t.station st).delay = ((k.delay : Int) + part (d - k.delay)).toNat) ∧
        (t.station st).goodProbes = k.goodProbes + 1 ∧ (t.station st).goodTotal = k.goodTotal + 1 ∧
        (k.goodProbes = 3 → (t.station st).state = .ready) ∧
        (k.goodProbes < 3 → (t.station st).state = .joining)) ∧
      (∀ n, 1 ≤ n → n ≤ 14 → n ≠ st → t.station n = s.station n) ∧ t.pdu = s.pdu ∧ t.scu = s.scu ∧
      t.tmu = s.tmu ∧ t.store = s.store ∧ t.now = s.now) ∧
  ∀ (s : State) (st tally t2 t3 t4 : Nat) (x : Exchange), s.inReset = false → 1 ≤ st → st ≤ 14 →
    s.pbc.stations.length = 14 → s.pbc.exchange = some x → x.station = st → x.frame = .probe →
    (s.station st).state = .cut ∨ (s.station st).state = .absent →
    let hold : Int := ((t3 : Int) - t2).bmod 4294967296
    let bad : Prop := 2000 < (t4 : Int) - x.sendTime ∨ hold < 0 ∨ (((t4 : Int) - x.sendTime) - hold).tdiv 2 < 0
    ∃ t, exec (.probeReply st tally t2 t3 t4) s = .next t ∧ t.pbc.exchange = none ∧
      (t.station st).state = (s.station st).state ∧
      (bad → (t.station st).discarded = satInc (s.station st).discarded ∧
        (t.station st).goodTotal = (s.station st).goodTotal) ∧
      (¬ bad → (t.station st).discarded = (s.station st).discarded ∧
        (t.station st).goodTotal = (s.station st).goodTotal + 1)

/-- At a reply window's limit with no reply, of the open window or of one that a discarded frame ended early, the
station's no-reply counter counts; an unanswered PROBE or POLL is a failure: READY becomes SUSPECT with streak 1,
JOINING counts its streak and loses its good probes, a third failure makes SUSPECT and JOINING CUT with the queue
empty, ABSENT and CUT stay, and an unanswered recovery poll changes no more. An unanswered APPLY makes its SENT entry
due for resend within the limit and closes it as failed at the limit, a failure of the station alike, but of a CUE entry
in HOLD, or one that a HOLD entry found open, drops the ACK deadline alone; an unanswered CANCEL is offered again
within the limit and not at the limit. The open window ends with it, the bus free 20 µs later; a window ended early
leaves the open one and the bus as they are. A closing that leaves no RESOLUTION entry outstanding makes PREPARING
ARMED (R7, R89, R90, R94, R97, R98, R104, R105, R110, R116 to R118). That a recovery poll's missing reply is no failure
in any state is log entry 40; a cancel count above a limit lowered since is log entry 60; that a window ended early is
counted at its limit is log entry 94. -/
def Obligations.NoReplyIsAFailure : Prop :=
  let limitOf (x : Exchange) : Nat := x.sendTime + if x.frame = .probe then 4000 else 2000
  let orderly (s : State) (x : Exchange) : Prop := s.inReset = false ∧ (1 ≤ x.station ∧ x.station ≤ 14) ∧
    s.pbc.stations.length = 14 ∧ s.pdu.queues.length = 14 ∧ s.now < timeMax ∧
    ∀ n, ∀ e ∈ s.queue n, e.station = n
  let ends (s : State) (x : Exchange) (ended : State → Prop) : Prop :=
    let st := x.station
    let k := s.station st
    let told (t : State) : Prop := ended t ∧ (t.station st).noReplies = satInc k.noReplies ∧ t.tmu = s.tmu ∧
      t.store = s.store ∧ t.cue = s.cue ∧ t.clu = s.clu ∧ t.vu = s.vu ∧ t.now = s.now
    let goes (a : StationState) (n : Nat) (t : State) : Prop :=
      (t.station st).state = a ∧ (t.station st).streak = n ∧ t.queue st = s.queue st ∧ t.scu = s.scu
    let cut (t : State) : Prop := (t.station st).state = .cut ∧ t.queue st = [] ∧
      ResolutionsClosed (resolutionsIn (s.queue st)) s t ∧
      (t.station st).nextProbe = none ∧ (t.station st).nextPoll = some (s.now + 1000000) ∧
      (t.station st).cuts = satInc k.cuts ∧ t.holds .stationCut = true
    ((x.frame = .probe ∨ x.frame = .poll false ∨ x.frame = .poll true) →
      ∃ t, exec .noReply s = .next t ∧ told t ∧
        (∀ n, 1 ≤ n → n ≤ 14 → n ≠ st → t.station n = s.station n ∧ t.queue n = s.queue n) ∧
        (x.frame = .poll true ∨ k.state = .absent ∨ k.state = .cut → goes k.state k.streak t) ∧
        (x.frame ≠ .poll true →
          (k.state = .ready → goes .suspect 1 t) ∧
          (k.state = .suspect → k.streak < 2 → goes .suspect (k.streak + 1) t) ∧
          (k.state = .joining → k.streak < 2 → goes .joining (k.streak + 1) t ∧ (t.station st).goodProbes = 0) ∧
          (k.state = .suspect ∨ k.state = .joining → 2 ≤ k.streak → cut t))) ∧
    ∀ e : Entry, s.queue st = [e] → e.seq = x.seq → s.pdu.closures.length = 14 →
      let c := nth1 s.pdu.closures st
      (∀ layer patch land, x.frame = .apply layer patch land → e.state = .sent →
        e.ackDeadline = some (x.sendTime + 2000) →
        let waits := e.held = true ∨ (s.scu.showState = .hold ∧ e.origin = .cue)
        (waits → ∃ t, exec .noReply s = .next t ∧ told t ∧ t.scu = s.scu ∧
          (t.station st).state = k.state ∧ (t.station st).streak = k.streak ∧
          t.queue st = [{ e with ackDeadline := none, held := true }]) ∧
        (¬ waits → e.resends < s.pdu.resendLimit → ∃ t, exec .noReply s = .next t ∧ told t ∧ t.scu = s.scu ∧
          (t.station st).streak = k.streak ∧
          t.queue st = [{ e with resends := e.resends + 1, resendDue := true, ackDeadline := none }]) ∧
        (¬ waits → s.pdu.resendLimit ≤ e.resends →
          ∃ t, exec .noReply s = .next t ∧ told t ∧ t.queue st = [] ∧ t.lku.latched.getLsbD 5 = true ∧
            nth1 t.pdu.closures st = { c with failed := c.failed + 1 } ∧
            ResolutionsClosed (resolutionsIn [e]) s t ∧
            (k.state = .ready → (t.station st).state = .suspect ∧ (t.station st).streak = 1) ∧
            (k.state = .joining ∨ k.state = .suspect → k.streak < 2 →
              (t.station st).state = k.state ∧ (t.station st).streak = k.streak + 1) ∧
            (k.state = .joining ∨ k.state = .suspect → 2 ≤ k.streak → (t.station st).state = .cut))) ∧
      (∀ layer patch, x.frame = .cancel layer patch → e.isOpen = true → e.cancelPending = true →
        ∃ t, exec .noReply s = .next t ∧ told t ∧ t.scu = s.scu ∧ t.queue st = [
          if e.cancelResends < s.pdu.resendLimit then
            { e with cancelResends := e.cancelResends + 1, cancelOffered := true }
          else e])
  (∀ (s : State) (x : Exchange), orderly s x → s.pbc.exchange = some x → s.pbc.lostWindows = [] →
    (s.now < limitOf x → exec .noReply s = .next s) ∧
    (limitOf x ≤ s.now → ends s x fun t =>
      t.pbc.exchange = none ∧ t.pbc.lostWindows = [] ∧ t.pbc.freeAt = s.now + 20)) ∧
  ∀ (s : State) (x : Exchange) (before after : List Exchange), orderly s x →
    s.pbc.lostWindows = before ++ x :: after → (∀ y ∈ before, s.now < limitOf y) → limitOf x ≤ s.now →
    ends s x fun t =>
      t.pbc.exchange = s.pbc.exchange ∧ t.pbc.lostWindows = before ++ after ∧ t.pbc.freeAt = s.pbc.freeAt

/-- A report taken by attention adds its tally to the station's loss total and clears its loss counter; a
roster station's report is queued with ACK_REPORT while fewer than 16 are held (a DONE or FAULT from an ABSENT
one is not), and any other is answered NAK_REPORT and counted. A damaged or unexpected frame, and an attention
in a reply window, is a bus error that ends an open window, and a reply outside a window a late reply, counted, after
which the bus is quiet and free 20 µs later. While the bus carries another station's header none of this station's
frames can come, and the model passes over one (log entry 44); that the answer to a report counts as a frame sent is log
entry 72 (R103 to R107, R111, R123). -/
def Obligations.StationFramesAreTakenOrDiscarded : Prop :=
  ∀ (s : State) (st tally : Nat) (r : Report), s.inReset = false → 1 ≤ st → st ≤ 14 →
    s.pbc.stations.length = 14 →
    let refused : Bool := !(s.store.roster.contains st) || decide (16 ≤ s.pbc.reports.length) ||
      ((s.station st).state == .absent && match r with
        | .done .. | .fault .. => true
        | _ => false)
    let others (t : State) : Prop :=
      (∀ n, 1 ≤ n → n ≤ 14 → n ≠ st → t.station n = s.station n) ∧ t.scu = s.scu ∧ t.tmu = s.tmu ∧
      t.store = s.store ∧ t.cue = s.cue ∧ t.pdu = s.pdu ∧ t.clu = s.clu ∧ t.vu = s.vu ∧ t.now = s.now
    let error (t : State) : Prop := t.pbc.exchange = none ∧ t.pbc.busErrors = s.pbc.busErrors + 1 ∧
      t.lku.latched.getLsbD 10 = true ∧ t.pbc.reports = s.pbc.reports ∧ t.station st = s.station st ∧
      t.pbc.lostWindows = s.pbc.lostWindows ++ s.pbc.exchange.toList ∧ others t
    let free := s.pbc.attention = none ∨ s.pbc.attention = some st
    let replies (i : Instr) : Prop := i = .ack st tally ∨ i = .nak st tally ∨
      (∃ a b c, i = .probeReply st tally a b c) ∨ ∃ rep, i = .pollReply st tally rep
    (s.pbc.exchange = none → free → ∃ t, exec (.attention st tally r) s = .next t ∧ others t ∧
      t.pbc.busErrors = s.pbc.busErrors ∧ t.pbc.attention = none ∧
      (t.station st).framesSent = (s.station st).framesSent + 1 ∧ (t.station st).lossCounter = 0 ∧
      (t.station st).lossTotal = (s.station st).lossTotal + BitVec.ofNat 32 tally ∧
      (refused = false → t.pbc.reports = s.pbc.reports ++ [(st, r)] ∧
        t.pbc.lastFrame = some (st, .ackReport) ∧
        (t.station st).reportsTaken = (s.station st).reportsTaken + 1) ∧
      (refused = true → t.pbc.reports = s.pbc.reports ∧ t.pbc.lastFrame = some (st, .nakReport) ∧
        (t.station st).refusedReports = satInc (s.station st).refusedReports)) ∧
    (s.pbc.exchange ≠ none → ∃ t, exec (.attention st tally r) s = .next t ∧ error t) ∧
    (∃ t, exec .damagedFrame s = .next t ∧ error t) ∧ (∃ t, exec .unexpectedFrame s = .next t ∧ error t) ∧
    (s.pbc.exchange = none → free → ∀ i : Instr, replies i → exec i s = .next (s.onPbc fun b =>
      { b with
        stations := upd1 b.stations st fun k => { k with lateReplies := satInc k.lateReplies }
        attention := none, freeAt := s.now + 20 })) ∧
    (s.pbc.exchange = none → ¬ free → ∀ i : Instr, replies i ∨ i = .attention st tally r →
      exec i s = .next s)

/-! ## Reports and deadlines -/

/-- A DONE at the head of the report queue that matches the station's one open entry closes it as applied, with
its patch recorded; a FAULT closes it as failed with the patch unknown, raising PATCH_FAIL; and so does its done
deadline, the patch left as it was. A report that matches no open entry is stray: counted, and the current
patch becomes what it says. Of a FAULT this holds for a station in any state with any queue: the layer's patch
becomes unknown, the SENT or ACKED entry of its layer and patch closes as failed, and without one it is stray; a third
failure in a row cuts the station, and its other entries close too. A closing that leaves no RESOLUTION entry outstanding
makes PREPARING ARMED, and changes no other show state (R7, R91 to R95, R98, R100, R116). That a stray DONE's patch
above 4095 is taken as it stands is log entry 59. -/
def Obligations.ReportsAndDeadlinesCloseEntries : Prop :=
  (∀ (s : State) (st layer patch : Nat) (rest : List (Nat × Report)), s.inReset = false → 1 ≤ st →
    st ≤ 14 → layer < 8 → s.pbc.stations.length = 14 → s.pdu.queues.length = 14 →
    s.pdu.closures.length = 14 → (s.station st).patches.length = 8 →
    (∀ e ∈ s.queue st, e.station = st) → (s.queue st).Nodup → s.pbc.reports = (st, .fault layer patch) :: rest →
    let c := nth1 s.pdu.closures st
    let carries (e : Entry) : Prop :=
      (e.state = .sent ∨ e.state = .acked) ∧ e.layer = layer ∧ e.patch = patch
    ∃ t, exec .faultReport s = .next t ∧ t.pbc.reports = rest ∧
      (t.station st).patches = (s.station st).patches.set layer none ∧ t.now = s.now ∧
      (∀ e ∈ s.queue st, carries e → (∀ d ∈ s.queue st, carries d → d = e) →
        let k := s.station st
        let cut := (k.state = .joining ∨ k.state = .suspect) ∧ 2 ≤ k.streak
        e ∉ t.queue st ∧ (nth1 t.pdu.closures st).failed = c.failed + 1 ∧
        (nth1 t.pdu.closures st).stray = c.stray ∧ t.lku.latched.getLsbD 5 = true ∧
        (cut → (t.station st).state = .cut ∧ t.queue st = [] ∧
          ResolutionsClosed (resolutionsIn (s.queue st)) s t) ∧
        (¬ cut → t.queue st = (s.queue st).erase e ∧ ResolutionsClosed (resolutionsIn [e]) s t)) ∧
      ((∀ e ∈ s.queue st, ¬ carries e) → t.queue st = s.queue st ∧
        nth1 t.pdu.closures st = { c with stray := c.stray + 1 } ∧
        t.pdu.outstanding = s.pdu.outstanding ∧ (t.station st).state = (s.station st).state ∧
        t.scu = s.scu)) ∧
  ∀ (s : State) (st layer patch : Nat) (rest : List (Nat × Report)), s.inReset = false → 1 ≤ st →
    st ≤ 14 → layer < 8 → s.pbc.stations.length = 14 → s.pdu.queues.length = 14 →
    s.pdu.closures.length = 14 → (s.station st).patches.length = 8 → (s.station st).state = .ready →
    let head (r : Report) : Prop := s.pbc.reports = (st, r) :: rest
    let c := nth1 s.pdu.closures st
    let kept (closed : List Entry) (t : State) : Prop := ResolutionsClosed (resolutionsIn closed) s t ∧
      t.tmu = s.tmu ∧ t.store = s.store ∧ t.cue = s.cue ∧ t.clu = s.clu ∧ t.vu = s.vu ∧ t.now = s.now ∧
      ∀ n, 1 ≤ n → n ≤ 14 → n ≠ st → t.station n = s.station n ∧ t.queue n = s.queue n
    let now (k : Option Nat) (t : State) : Prop :=
      (t.station st).patches = (s.station st).patches.set layer k
    (∀ e : Entry, s.queue st = [e] → e.station = st → e.isOpen = true → e.layer = layer → e.patch = patch →
      (head (.done layer patch) → ∃ t, exec .doneReport s = .next t ∧ kept [e] t ∧ t.queue st = [] ∧
        t.pbc.reports = rest ∧ now (some patch) t ∧ (t.station st).state = .ready ∧
        nth1 t.pdu.closures st = { c with applied := c.applied + 1 }) ∧
      (head (.fault layer patch) → ∃ t, exec .faultReport s = .next t ∧ kept [e] t ∧ t.queue st = [] ∧
        t.pbc.reports = rest ∧ now none t ∧ (t.station st).state = .suspect ∧
        nth1 t.pdu.closures st = { c with failed := c.failed + 1 } ∧ t.lku.latched.getLsbD 5 = true) ∧
      (∀ x, e.doneDeadline = some x → x ≤ s.now → ∃ t, exec (.doneDeadline st) s = .next t ∧ kept [e] t ∧
        t.queue st = [] ∧ (t.station st).patches = (s.station st).patches ∧
        (t.station st).state = .suspect ∧ nth1 t.pdu.closures st = { c with failed := c.failed + 1 } ∧
        t.lku.latched.getLsbD 5 = true)) ∧
    ((∀ e ∈ s.queue st, ¬ (e.isOpen = true ∧ e.layer = layer ∧ e.patch = patch)) →
      (head (.done layer patch) → ∃ t, exec .doneReport s = .next t ∧ kept [] t ∧ t.queue st = s.queue st ∧
        t.pbc.reports = rest ∧ now (some patch) t ∧ (t.station st).state = .ready ∧
        nth1 t.pdu.closures st = { c with stray := c.stray + 1 }) ∧
      (head (.fault layer patch) → ∃ t, exec .faultReport s = .next t ∧ kept [] t ∧ t.queue st = s.queue st ∧
        t.pbc.reports = rest ∧ now none t ∧ (t.station st).state = .ready ∧
        nth1 t.pdu.closures st = { c with stray := c.stray + 1 }))

/-! ## Clicks, video and the stop lines -/

/-- The first click of a lane sounds when its time is reached: it leaves the schedule, and a burst of 10,000 µs
at its level and accent takes the place of any earlier one; a burst ends at its end time. Before its time
neither happens, and no other lane or block changes (R134). -/
def Obligations.ClicksSoundAndBurstsEnd : Prop :=
  ∀ (s : State) (n : Nat), s.inReset = false → s.now < timeMax →
    (∀ c rest, (s.lane n).schedule = c :: rest →
      (c.time ≤ s.now → exec (.clickSound n) s = .next (s.onClu fun k =>
        { k with lanes := upd1 k.lanes n fun l =>
          { l with
            schedule := rest, burst := some ⟨c.level, c.accent, s.now + 10000⟩, sounded := l.sounded + 1 } })) ∧
      (s.now < c.time → exec (.clickSound n) s = .next s)) ∧
    (∀ b, (s.lane n).burst = some b →
      (b.endTime ≤ s.now → exec (.burstEnd n) s = .next (s.onClu fun k =>
        { k with lanes := upd1 k.lanes n fun l => { l with burst := none } })) ∧
      (s.now < b.endTime → exec (.burstEnd n) s = .next s))

/-- A frame start less than 10,000 µs after the camera's last is a glitch and counted; any other makes the camera
LIVE and seen with its cut deadline at three measured periods, or 150,000 µs with none measured. A feed that shows it
begins a frame of it, or, with another LIVE camera pending, its last picture again; a feed whose pending source is the
camera switches to it there, and one that shows it and has black or a CUT camera pending to that. At its deadline a
LIVE camera is CUT and counted. An echo on a feed with an outstanding mark times it: a sample above 200,000 µs is
discarded, the first loads L, a later one moves L by (sample - L)/2^q, and each lane that follows the feed has its
offset computed again, CLICK_CLAMP raised where the clamp takes hold; one with no mark is ignored. A feed that shows
black or a CUT camera begins its frame, switching where black or a CUT camera is pending with a VIDEO notice, when the
hold period since its last one is over, and not before: the measured period of the camera it shows, else of the one
before, else 20,000 µs. The frame's strip has the items of the overlay mask, and the banner (R129, R138, R139,
R141, R142, R144 to R147, R150, R151). A holding feed with no last picture carries black by log entry 32; a CUT
camera's deadline stays by log entry 33; a feed with no last frame counts from show time 0 by log entry 15; the flash
on COUNT_IN's beat 1, and pass and EXIT in RUNNING alone, are log entries 64 and 65. -/
def Obligations.CamerasAndFeedsTakeTheirFrames : Prop :=
  (∀ (s : State) (c : Podium), s.inReset = false →
    let k := s.vu.cam c
    let glitch := ∃ x, k.lastStart = some x ∧ s.now < x + 10000
    let blocks (t : State) : Prop := t.scu = s.scu ∧ t.tmu = s.tmu ∧ t.store = s.store ∧ t.cue = s.cue ∧
      t.pdu = s.pdu ∧ t.pbc = s.pbc ∧ t.clu = s.clu ∧ t.now = s.now ∧
      ∀ other, other ≠ c → t.vu.cam other = s.vu.cam other
    (glitch → ∃ t, exec (.cameraFrameStart c) s = .next t ∧ blocks t ∧ t.lku = s.lku ∧
      t.vu.cam c = { k with glitches := satInc k.glitches } ∧ t.vu.feeds = s.vu.feeds) ∧
    (¬ glitch → s.vu.feeds.length = 6 → ∃ t, exec (.cameraFrameStart c) s = .next t ∧ blocks t ∧
      let period : Option Nat := match k.lastStart with
        | none => k.period
        | some x => if s.now - x ≤ 50000 then some (s.now - x) else k.period
      t.vu.cam c = { k with
        live := true, seen := true, lastStart := some s.now, period := period
        deadline := some (s.now + match period with
          | some x => 3 * x
          | none => 150000)
        starts := k.starts + 1 } ∧
      (∀ n, 1 ≤ n → n ≤ 6 → (s.feed n).pending = none →
        ((s.feed n).showing ≠ .cam c → t.feed n = s.feed n) ∧
        ((s.feed n).showing = .cam c → (t.feed n).picture = some ⟨c, s.now⟩ ∧
          ∃ f, (t.feed n).lastFrame = some f ∧ f.time = s.now ∧ f.picture = .camera ⟨c, s.now⟩ ∧
            f.marked = ((s.feed n).measure && (s.feed n).phase == 0))) ∧
      (∀ n src, 1 ≤ n → n ≤ 6 → (s.feed n).pending = some src →
        let dest : Showing := match src with
          | .podium => .cam s.tmu.active
          | .camA => .cam .a
          | .camB => .cam .b
          | .black => .black
        let away : Prop := dest ≠ .cam c ∧ (s.feed n).showing = .cam c
        let live : Prop := ∃ o, dest = .cam o ∧ (s.vu.cam o).live = true
        let switched (f : Feed) : Prop := f.source = src ∧ f.pending = none ∧ f.showing = dest ∧
          f.switches = (s.feed n).switches + 1
        (dest ≠ .cam c → (s.feed n).showing ≠ .cam c → t.feed n = s.feed n) ∧
        (dest = .cam c → switched (t.feed n) ∧ (t.feed n).picture = some ⟨c, s.now⟩ ∧
          ∃ f, (t.feed n).lastFrame = some f ∧ f.time = s.now ∧ f.picture = .camera ⟨c, s.now⟩) ∧
        (away → live → (t.feed n).pending = some src ∧ (t.feed n).showing = .cam c ∧
          (t.feed n).source = (s.feed n).source ∧ (t.feed n).switches = (s.feed n).switches ∧
          ∃ f, (t.feed n).lastFrame = some f ∧ f.time = s.now ∧
            f.picture = match (s.feed n).picture with
              | some q => .camera q
              | none => .black) ∧
        (away → ¬ live → switched (t.feed n) ∧ ∃ f, (t.feed n).lastFrame = some f ∧ f.time = s.now ∧
          f.picture = if dest = .black then .black else .noPicture (s.feed n).picture))) ∧
    (k.live = true → ∀ x, k.deadline = some x → x ≤ s.now → ∃ t, exec (.cameraCut c) s = .next t ∧
      blocks t ∧ t.vu.cam c = { k with live := false, cuts := satInc k.cuts } ∧
      t.vu.feeds = s.vu.feeds ∧ (k.seen = true → t.holds .sourceCut = true))) ∧
  (∀ (s : State) (n : Nat), s.inReset = false → 1 ≤ n → n ≤ 6 → s.vu.feeds.length = 6 →
    let f := s.feed n
    let blocks (t : State) : Prop := t.scu = s.scu ∧ t.tmu = s.tmu ∧ t.store = s.store ∧ t.cue = s.cue ∧
      t.pdu = s.pdu ∧ t.pbc = s.pbc ∧ t.now = s.now ∧ ∀ m, 1 ≤ m → m ≤ 6 → m ≠ n → t.feed m = s.feed m
    (f.mark = none → exec (.feedEcho n) s = .next s) ∧
    (∀ x, f.mark = some x → x ≤ s.now →
      let sample := s.now - x
      (200000 < sample → exec (.feedEcho n) s = .next (s.onVu fun v =>
        { v with feeds := upd1 v.feeds n fun f => { f with mark := none, discarded := satInc f.discarded } })) ∧
      (sample ≤ 200000 → ∃ t, exec (.feedEcho n) s = .next t ∧ blocks t ∧
        let moved : Nat :=
          ((f.latency : Int) +
            ((sample : Int) - f.latency).tdiv ((2 ^ (s.feedBase n).depth : Nat) : Int)).toNat
        let lat := if f.loaded then moved else sample
        t.feed n = { f with
          mark := none, latency := lat, loaded := true, good := satInc f.good
          high := decide ((s.feedBase n).threshold < lat) } ∧
        t.clu.hands = s.clu.hands ∧
        (s.clu.lanes.length = 16 → ∀ j, 1 ≤ j → j ≤ 16 →
          let b := s.laneBase j
          let sum : Int := (b.base : Int) + (s.lane j).trim + lat
          let out := decide (sum < 0) || decide (80000 < sum)
          let hits : Prop := out = true ∧ (s.lane j).clamped = false
          (b.follow ≠ some n → t.lane j = s.lane j) ∧
          (b.follow = some n → (hits → t.lku.latched.getLsbD 12 = true) ∧
            t.lane j = { s.lane j with
              offset := if sum < 0 then 0 else if 80000 < sum then 80000 else sum.toNat
              clamped := out
              clamps := if hits then satInc (s.lane j).clamps else (s.lane j).clamps })))) ∧
    (s.now < timeMax →
      let isLive (x : Showing) : Prop := ∃ c, x = .cam c ∧ (s.vu.cam c).live = true
      let shown : Option Nat := match f.showing with
        | .cam c => (s.vu.cam c).period
        | .black => none
      let earlier : Nat := (f.before.bind fun c => (s.vu.cam c).period).getD 20000
      let last : Nat := match f.lastFrame with
        | some k => k.time
        | none => 0
      let frameAt := last + shown.getD earlier
      let has (b : Nat) : Prop := f.overlay.getLsbD b = true
      let place := s.scu.position.place
      let flash : Option Bool := match s.vu.flash with
        | some x =>
          if s.now < x.endTime ∧ place.map Place.beat = some x.beat ∧
              s.vu.hands.any HandOver.isBeat = false then
            some x.downbeat
          else none
        | none => none
      let vamp := s.scu.showState = .running ∧ s.segment.map Segment.vamp = some true
      let strip (k : Strip) : Prop := k.banner = s.vu.banner ∧
        k.tempo = (if has 1 then some (600000000 / (s.tmu.p16 / 16), s.tmu.tempo) else none) ∧
        k.standby = (if has 2 then some s.vu.standby else none) ∧
        k.countIn = (if has 3 then
          some (if s.scu.showState = .countIn then
            some (s.scu.position.countBars, (place.map Place.beat).getD 1, flash) else none) else none) ∧
        k.panic = (if has 4 then some (s.vu.panic.map fun p => (p.station, p.player)) else none) ∧
        (¬ has 0 → k.position = none) ∧
        (has 0 → ∃ i, k.position = some i ∧ i.showState = s.scu.showState ∧ i.flash = flash ∧
          i.pass = (if vamp then some s.scu.position.pass else none) ∧
          i.exitShown = (decide vamp && s.scu.position.exitArmed) ∧
          (s.scu.showState = .dark ∨ s.scu.showState = .running ∨ s.scu.showState = .hold → i.place = place) ∧
          (s.scu.showState = .preparing ∨ s.scu.showState = .armed ∨ s.scu.showState = .countIn →
            i.place.map (fun d => (d.song, d.bar, d.beat)) =
              s.scu.armed.map fun a => (a.1, (a.2 : Int), 1)))
      (isLive f.showing ∨ s.now < frameAt → exec (.feedFrame n) s = .next s) ∧
      (¬ isLive f.showing → frameAt ≤ s.now →
        ∃ t, exec (.feedFrame n) s = .next t ∧ blocks t ∧ t.clu = s.clu ∧
          ∃ k, (t.feed n).lastFrame = some k ∧ k.time = s.now ∧ strip k.strip ∧
            k.marked = (f.measure && f.phase == 0) ∧
            (f.pending = none → t.lku = s.lku ∧ (t.feed n).showing = f.showing ∧
              (f.showing = .black → k.picture = .black) ∧
              (∀ c, f.showing = .cam c → k.picture = .noPicture f.picture)) ∧
            ∀ src, f.pending = some src →
              let dest : Showing := match src with
                | .podium => .cam s.tmu.active
                | .camA => .cam .a
                | .camB => .cam .b
                | .black => .black
              (isLive dest → (t.feed n).pending = some src ∧ (t.feed n).showing = f.showing ∧ t.lku = s.lku) ∧
              (¬ isLive dest → (t.feed n).source = src ∧ (t.feed n).pending = none ∧
                (t.feed n).showing = dest ∧ (t.feed n).switches = f.switches + 1 ∧
                (dest = .black → k.picture = .black) ∧ (dest ≠ .black → k.picture = .noPicture f.picture) ∧
                t.lku = (raiseNotice (.videoSwitch n src dest) s).lku))))

/-- A stop line that shows a level other than its recorded one has a change pending from then; back before
2,000 µs it has a glitch; held for 2,000 µs the level becomes the recorded one, an active one being a line stop
that enters HOLD from another show state. Nothing is settled before. In HOLD a line stop adds its origin, unless it is
in the stop set: stage-clear becomes no and the restart point none. A line release in HOLD removes its origin, and
with the set empty and stage-clear the show exits at the restart point, or with none, held from DARK, to DARK (R154,
R156, R157, R161 to R164). -/
def Obligations.StopLineSettlesAfterItsHold : Prop :=
  ∀ (l : StopLine) (s : State), s.inReset = false → s.now < timeMax →
    let r := s.scu.line l
    (r.since = none → ∀ b : Bool, exec (.lineChange l b) s = .next (s.onScu (Scu.onLine l fun k =>
      { k with pin := b, since := if b = k.level then none else some s.now }))) ∧
    (∀ x, r.since = some x → s.now < x + 2000 →
      exec (.lineSettle l) s = .next s ∧
      exec (.lineChange l r.level) s = .next (s.onScu (Scu.onLine l fun k =>
        { k with pin := k.level, since := none, glitches := satInc k.glitches })) ∧
      exec (.lineChange l (!r.level)) s = .next (s.onScu (Scu.onLine l fun k => { k with pin := !k.level }))) ∧
    (∀ x, r.since = some x → x + 2000 ≤ s.now → r.level = false → s.scu.showState ≠ .hold →
      ∃ t, exec (.lineSettle l) s = .next t ∧ t.scu.showState = .hold ∧
        (t.scu.line l).level = true ∧ (t.scu.line l).since = none ∧
        t.scu.stopSet = s.scu.stopSet.put (lineOrigin l) true ∧ t.scu.lamp = true ∧
        (∃ k, t.scu.stopRecord = some k ∧ k.first = lineOrigin l ∧ k.entryTime = s.now ∧ k.exit = none) ∧
        t.store = s.store ∧ t.pbc = s.pbc ∧ t.now = s.now) ∧
    (∀ x, r.since = some x → x + 2000 ≤ s.now → r.level = true → s.scu.showState ≠ .hold →
      exec (.lineSettle l) s = .next (s.onScu (Scu.onLine l fun k => { k with level := false, since := none }))) ∧
    (∀ x, r.since = some x → x + 2000 ≤ s.now → s.scu.showState = .hold →
      let o := lineOrigin l
      let settled := s.scu.onLine l fun k => { k with level := !k.level, since := none }
      let rest := s.scu.stopSet.put o false
      let others (t : State) : Prop := t.tmu = s.tmu ∧ t.clu = s.clu ∧ t.pdu = s.pdu ∧ t.cue = s.cue ∧
        t.vu = s.vu ∧ t.store = s.store ∧ t.pbc = s.pbc ∧ t.now = s.now
      (r.level = false → s.scu.stopSet.has o = true → exec (.lineSettle l) s = .next { s with scu := settled }) ∧
      (r.level = false → s.scu.stopSet.has o = false → ∃ t, exec (.lineSettle l) s = .next t ∧ others t ∧
        t.scu = { settled with
          stopSet := s.scu.stopSet.put o true, stageClear := false, restart := none
          stageLineStops := if l = .stage then satInc s.scu.stageLineStops else s.scu.stageLineStops
          podiumLineStops := if l = .podium then satInc s.scu.podiumLineStops else s.scu.podiumLineStops }) ∧
      (r.level = true → ∃ t, exec (.lineSettle l) s = .next t ∧ t.pbc = s.pbc ∧ t.now = s.now ∧
        (rest.isEmpty = false ∨ s.scu.stageClear = false ∨
            s.scu.restart = none ∧ s.scu.heldFrom ≠ some .dark →
          t.scu = { settled with stopSet := rest } ∧ others t) ∧
        (rest.isEmpty = true → s.scu.stageClear = true → s.scu.restart = none →
          s.scu.heldFrom = some .dark → t.scu.showState = .dark ∧ t.scu.stopSet = rest ∧
          t.scu.stageClear = false ∧ t.scu.lamp = false ∧ t.holds .holdActive = false ∧ t.vu.banner = none ∧
          t.scu.stopRecord = (s.scu.stopRecord.map fun k => { k with exit := some (.dark, s.now) })) ∧
        ∀ k, rest.isEmpty = true → s.scu.stageClear = true → s.scu.restart = some k →
          (t.scu.showState = .preparing ∨ t.scu.showState = .armed) ∧ t.scu.stopSet = rest ∧
          t.scu.armed = some (k.song, k.bar) ∧ t.scu.position = s.store.positionAt k.song k.bar ∧
          t.scu.stageClear = false ∧ t.scu.lamp = false ∧ t.holds .holdActive = false ∧ t.vu.banner = none))
end

