-- ==== Sys2Proof/Laws/State.lean ====
section
/-! SUPPORT. One lemma per field for each update of the state, so that no proof unfolds a record update; and
the same for the updates of one link, station, queue, lane, feed or camera, of the cue table and of the
position. -/

namespace Sys2Proof.Machine

@[simp] theorem State.setNow_now (t : Nat) (s : State) : (s.setNow t).now = t := rfl
@[simp] theorem State.setNow_inReset (t : Nat) (s : State) : (s.setNow t).inReset = s.inReset := rfl
@[simp] theorem State.setNow_scu (t : Nat) (s : State) : (s.setNow t).scu = s.scu := rfl
@[simp] theorem State.setNow_tmu (t : Nat) (s : State) : (s.setNow t).tmu = s.tmu := rfl
@[simp] theorem State.setNow_store (t : Nat) (s : State) : (s.setNow t).store = s.store := rfl
@[simp] theorem State.setNow_cue (t : Nat) (s : State) : (s.setNow t).cue = s.cue := rfl
@[simp] theorem State.setNow_pdu (t : Nat) (s : State) : (s.setNow t).pdu = s.pdu := rfl
@[simp] theorem State.setNow_pbc (t : Nat) (s : State) : (s.setNow t).pbc = s.pbc := rfl
@[simp] theorem State.setNow_clu (t : Nat) (s : State) : (s.setNow t).clu = s.clu := rfl
@[simp] theorem State.setNow_vu (t : Nat) (s : State) : (s.setNow t).vu = s.vu := rfl
@[simp] theorem State.setNow_lku (t : Nat) (s : State) : (s.setNow t).lku = s.lku := rfl
@[simp] theorem State.setNow_freeIdx (t : Nat) (s : State) : (s.setNow t).freeIdx = s.freeIdx := rfl
@[simp] theorem State.setNow_pending (t : Nat) (s : State) : (s.setNow t).pending = s.pending := rfl

@[simp] theorem State.onScu_now (f : Scu → Scu) (s : State) : (s.onScu f).now = s.now := rfl
@[simp] theorem State.onScu_inReset (f : Scu → Scu) (s : State) : (s.onScu f).inReset = s.inReset := rfl
@[simp] theorem State.onScu_scu (f : Scu → Scu) (s : State) : (s.onScu f).scu = f s.scu := rfl
@[simp] theorem State.onScu_tmu (f : Scu → Scu) (s : State) : (s.onScu f).tmu = s.tmu := rfl
@[simp] theorem State.onScu_store (f : Scu → Scu) (s : State) : (s.onScu f).store = s.store := rfl
@[simp] theorem State.onScu_cue (f : Scu → Scu) (s : State) : (s.onScu f).cue = s.cue := rfl
@[simp] theorem State.onScu_pdu (f : Scu → Scu) (s : State) : (s.onScu f).pdu = s.pdu := rfl
@[simp] theorem State.onScu_pbc (f : Scu → Scu) (s : State) : (s.onScu f).pbc = s.pbc := rfl
@[simp] theorem State.onScu_clu (f : Scu → Scu) (s : State) : (s.onScu f).clu = s.clu := rfl
@[simp] theorem State.onScu_vu (f : Scu → Scu) (s : State) : (s.onScu f).vu = s.vu := rfl
@[simp] theorem State.onScu_lku (f : Scu → Scu) (s : State) : (s.onScu f).lku = s.lku := rfl
@[simp] theorem State.onScu_freeIdx (f : Scu → Scu) (s : State) : (s.onScu f).freeIdx = s.freeIdx := rfl
@[simp] theorem State.onScu_pending (f : Scu → Scu) (s : State) : (s.onScu f).pending = s.pending := rfl

@[simp] theorem State.onTmu_now (f : Tmu → Tmu) (s : State) : (s.onTmu f).now = s.now := rfl
@[simp] theorem State.onTmu_inReset (f : Tmu → Tmu) (s : State) : (s.onTmu f).inReset = s.inReset := rfl
@[simp] theorem State.onTmu_scu (f : Tmu → Tmu) (s : State) : (s.onTmu f).scu = s.scu := rfl
@[simp] theorem State.onTmu_tmu (f : Tmu → Tmu) (s : State) : (s.onTmu f).tmu = f s.tmu := rfl
@[simp] theorem State.onTmu_store (f : Tmu → Tmu) (s : State) : (s.onTmu f).store = s.store := rfl
@[simp] theorem State.onTmu_cue (f : Tmu → Tmu) (s : State) : (s.onTmu f).cue = s.cue := rfl
@[simp] theorem State.onTmu_pdu (f : Tmu → Tmu) (s : State) : (s.onTmu f).pdu = s.pdu := rfl
@[simp] theorem State.onTmu_pbc (f : Tmu → Tmu) (s : State) : (s.onTmu f).pbc = s.pbc := rfl
@[simp] theorem State.onTmu_clu (f : Tmu → Tmu) (s : State) : (s.onTmu f).clu = s.clu := rfl
@[simp] theorem State.onTmu_vu (f : Tmu → Tmu) (s : State) : (s.onTmu f).vu = s.vu := rfl
@[simp] theorem State.onTmu_lku (f : Tmu → Tmu) (s : State) : (s.onTmu f).lku = s.lku := rfl
@[simp] theorem State.onTmu_freeIdx (f : Tmu → Tmu) (s : State) : (s.onTmu f).freeIdx = s.freeIdx := rfl
@[simp] theorem State.onTmu_pending (f : Tmu → Tmu) (s : State) : (s.onTmu f).pending = s.pending := rfl

@[simp] theorem State.onStore_now (f : Store → Store) (s : State) : (s.onStore f).now = s.now := rfl
@[simp] theorem State.onStore_inReset (f : Store → Store) (s : State) : (s.onStore f).inReset = s.inReset := rfl
@[simp] theorem State.onStore_scu (f : Store → Store) (s : State) : (s.onStore f).scu = s.scu := rfl
@[simp] theorem State.onStore_tmu (f : Store → Store) (s : State) : (s.onStore f).tmu = s.tmu := rfl
@[simp] theorem State.onStore_store (f : Store → Store) (s : State) : (s.onStore f).store = f s.store := rfl
@[simp] theorem State.onStore_cue (f : Store → Store) (s : State) : (s.onStore f).cue = s.cue := rfl
@[simp] theorem State.onStore_pdu (f : Store → Store) (s : State) : (s.onStore f).pdu = s.pdu := rfl
@[simp] theorem State.onStore_pbc (f : Store → Store) (s : State) : (s.onStore f).pbc = s.pbc := rfl
@[simp] theorem State.onStore_clu (f : Store → Store) (s : State) : (s.onStore f).clu = s.clu := rfl
@[simp] theorem State.onStore_vu (f : Store → Store) (s : State) : (s.onStore f).vu = s.vu := rfl
@[simp] theorem State.onStore_lku (f : Store → Store) (s : State) : (s.onStore f).lku = s.lku := rfl
@[simp] theorem State.onStore_freeIdx (f : Store → Store) (s : State) : (s.onStore f).freeIdx = s.freeIdx := rfl
@[simp] theorem State.onStore_pending (f : Store → Store) (s : State) : (s.onStore f).pending = s.pending := rfl

@[simp] theorem State.onCue_now (f : CueEngine → CueEngine) (s : State) : (s.onCue f).now = s.now := rfl
@[simp] theorem State.onCue_inReset (f : CueEngine → CueEngine) (s : State) : (s.onCue f).inReset = s.inReset := rfl
@[simp] theorem State.onCue_scu (f : CueEngine → CueEngine) (s : State) : (s.onCue f).scu = s.scu := rfl
@[simp] theorem State.onCue_tmu (f : CueEngine → CueEngine) (s : State) : (s.onCue f).tmu = s.tmu := rfl
@[simp] theorem State.onCue_store (f : CueEngine → CueEngine) (s : State) : (s.onCue f).store = s.store := rfl
@[simp] theorem State.onCue_cue (f : CueEngine → CueEngine) (s : State) : (s.onCue f).cue = f s.cue := rfl
@[simp] theorem State.onCue_pdu (f : CueEngine → CueEngine) (s : State) : (s.onCue f).pdu = s.pdu := rfl
@[simp] theorem State.onCue_pbc (f : CueEngine → CueEngine) (s : State) : (s.onCue f).pbc = s.pbc := rfl
@[simp] theorem State.onCue_clu (f : CueEngine → CueEngine) (s : State) : (s.onCue f).clu = s.clu := rfl
@[simp] theorem State.onCue_vu (f : CueEngine → CueEngine) (s : State) : (s.onCue f).vu = s.vu := rfl
@[simp] theorem State.onCue_lku (f : CueEngine → CueEngine) (s : State) : (s.onCue f).lku = s.lku := rfl
@[simp] theorem State.onCue_freeIdx (f : CueEngine → CueEngine) (s : State) : (s.onCue f).freeIdx = s.freeIdx := rfl
@[simp] theorem State.onCue_pending (f : CueEngine → CueEngine) (s : State) : (s.onCue f).pending = s.pending := rfl

@[simp] theorem State.onPdu_now (f : Pdu → Pdu) (s : State) : (s.onPdu f).now = s.now := rfl
@[simp] theorem State.onPdu_inReset (f : Pdu → Pdu) (s : State) : (s.onPdu f).inReset = s.inReset := rfl
@[simp] theorem State.onPdu_scu (f : Pdu → Pdu) (s : State) : (s.onPdu f).scu = s.scu := rfl
@[simp] theorem State.onPdu_tmu (f : Pdu → Pdu) (s : State) : (s.onPdu f).tmu = s.tmu := rfl
@[simp] theorem State.onPdu_store (f : Pdu → Pdu) (s : State) : (s.onPdu f).store = s.store := rfl
@[simp] theorem State.onPdu_cue (f : Pdu → Pdu) (s : State) : (s.onPdu f).cue = s.cue := rfl
@[simp] theorem State.onPdu_pdu (f : Pdu → Pdu) (s : State) : (s.onPdu f).pdu = f s.pdu := rfl
@[simp] theorem State.onPdu_pbc (f : Pdu → Pdu) (s : State) : (s.onPdu f).pbc = s.pbc := rfl
@[simp] theorem State.onPdu_clu (f : Pdu → Pdu) (s : State) : (s.onPdu f).clu = s.clu := rfl
@[simp] theorem State.onPdu_vu (f : Pdu → Pdu) (s : State) : (s.onPdu f).vu = s.vu := rfl
@[simp] theorem State.onPdu_lku (f : Pdu → Pdu) (s : State) : (s.onPdu f).lku = s.lku := rfl
@[simp] theorem State.onPdu_freeIdx (f : Pdu → Pdu) (s : State) : (s.onPdu f).freeIdx = s.freeIdx := rfl
@[simp] theorem State.onPdu_pending (f : Pdu → Pdu) (s : State) : (s.onPdu f).pending = s.pending := rfl

@[simp] theorem State.onPbc_now (f : Pbc → Pbc) (s : State) : (s.onPbc f).now = s.now := rfl
@[simp] theorem State.onPbc_inReset (f : Pbc → Pbc) (s : State) : (s.onPbc f).inReset = s.inReset := rfl
@[simp] theorem State.onPbc_scu (f : Pbc → Pbc) (s : State) : (s.onPbc f).scu = s.scu := rfl
@[simp] theorem State.onPbc_tmu (f : Pbc → Pbc) (s : State) : (s.onPbc f).tmu = s.tmu := rfl
@[simp] theorem State.onPbc_store (f : Pbc → Pbc) (s : State) : (s.onPbc f).store = s.store := rfl
@[simp] theorem State.onPbc_cue (f : Pbc → Pbc) (s : State) : (s.onPbc f).cue = s.cue := rfl
@[simp] theorem State.onPbc_pdu (f : Pbc → Pbc) (s : State) : (s.onPbc f).pdu = s.pdu := rfl
@[simp] theorem State.onPbc_pbc (f : Pbc → Pbc) (s : State) : (s.onPbc f).pbc = f s.pbc := rfl
@[simp] theorem State.onPbc_clu (f : Pbc → Pbc) (s : State) : (s.onPbc f).clu = s.clu := rfl
@[simp] theorem State.onPbc_vu (f : Pbc → Pbc) (s : State) : (s.onPbc f).vu = s.vu := rfl
@[simp] theorem State.onPbc_lku (f : Pbc → Pbc) (s : State) : (s.onPbc f).lku = s.lku := rfl
@[simp] theorem State.onPbc_freeIdx (f : Pbc → Pbc) (s : State) : (s.onPbc f).freeIdx = s.freeIdx := rfl
@[simp] theorem State.onPbc_pending (f : Pbc → Pbc) (s : State) : (s.onPbc f).pending = s.pending := rfl

@[simp] theorem State.onClu_now (f : Clu → Clu) (s : State) : (s.onClu f).now = s.now := rfl
@[simp] theorem State.onClu_inReset (f : Clu → Clu) (s : State) : (s.onClu f).inReset = s.inReset := rfl
@[simp] theorem State.onClu_scu (f : Clu → Clu) (s : State) : (s.onClu f).scu = s.scu := rfl
@[simp] theorem State.onClu_tmu (f : Clu → Clu) (s : State) : (s.onClu f).tmu = s.tmu := rfl
@[simp] theorem State.onClu_store (f : Clu → Clu) (s : State) : (s.onClu f).store = s.store := rfl
@[simp] theorem State.onClu_cue (f : Clu → Clu) (s : State) : (s.onClu f).cue = s.cue := rfl
@[simp] theorem State.onClu_pdu (f : Clu → Clu) (s : State) : (s.onClu f).pdu = s.pdu := rfl
@[simp] theorem State.onClu_pbc (f : Clu → Clu) (s : State) : (s.onClu f).pbc = s.pbc := rfl
@[simp] theorem State.onClu_clu (f : Clu → Clu) (s : State) : (s.onClu f).clu = f s.clu := rfl
@[simp] theorem State.onClu_vu (f : Clu → Clu) (s : State) : (s.onClu f).vu = s.vu := rfl
@[simp] theorem State.onClu_lku (f : Clu → Clu) (s : State) : (s.onClu f).lku = s.lku := rfl
@[simp] theorem State.onClu_freeIdx (f : Clu → Clu) (s : State) : (s.onClu f).freeIdx = s.freeIdx := rfl
@[simp] theorem State.onClu_pending (f : Clu → Clu) (s : State) : (s.onClu f).pending = s.pending := rfl

@[simp] theorem State.onVu_now (f : Vu → Vu) (s : State) : (s.onVu f).now = s.now := rfl
@[simp] theorem State.onVu_inReset (f : Vu → Vu) (s : State) : (s.onVu f).inReset = s.inReset := rfl
@[simp] theorem State.onVu_scu (f : Vu → Vu) (s : State) : (s.onVu f).scu = s.scu := rfl
@[simp] theorem State.onVu_tmu (f : Vu → Vu) (s : State) : (s.onVu f).tmu = s.tmu := rfl
@[simp] theorem State.onVu_store (f : Vu → Vu) (s : State) : (s.onVu f).store = s.store := rfl
@[simp] theorem State.onVu_cue (f : Vu → Vu) (s : State) : (s.onVu f).cue = s.cue := rfl
@[simp] theorem State.onVu_pdu (f : Vu → Vu) (s : State) : (s.onVu f).pdu = s.pdu := rfl
@[simp] theorem State.onVu_pbc (f : Vu → Vu) (s : State) : (s.onVu f).pbc = s.pbc := rfl
@[simp] theorem State.onVu_clu (f : Vu → Vu) (s : State) : (s.onVu f).clu = s.clu := rfl
@[simp] theorem State.onVu_vu (f : Vu → Vu) (s : State) : (s.onVu f).vu = f s.vu := rfl
@[simp] theorem State.onVu_lku (f : Vu → Vu) (s : State) : (s.onVu f).lku = s.lku := rfl
@[simp] theorem State.onVu_freeIdx (f : Vu → Vu) (s : State) : (s.onVu f).freeIdx = s.freeIdx := rfl
@[simp] theorem State.onVu_pending (f : Vu → Vu) (s : State) : (s.onVu f).pending = s.pending := rfl

@[simp] theorem State.onLku_now (f : Lku → Lku) (s : State) : (s.onLku f).now = s.now := rfl
@[simp] theorem State.onLku_inReset (f : Lku → Lku) (s : State) : (s.onLku f).inReset = s.inReset := rfl
@[simp] theorem State.onLku_scu (f : Lku → Lku) (s : State) : (s.onLku f).scu = s.scu := rfl
@[simp] theorem State.onLku_tmu (f : Lku → Lku) (s : State) : (s.onLku f).tmu = s.tmu := rfl
@[simp] theorem State.onLku_store (f : Lku → Lku) (s : State) : (s.onLku f).store = s.store := rfl
@[simp] theorem State.onLku_cue (f : Lku → Lku) (s : State) : (s.onLku f).cue = s.cue := rfl
@[simp] theorem State.onLku_pdu (f : Lku → Lku) (s : State) : (s.onLku f).pdu = s.pdu := rfl
@[simp] theorem State.onLku_pbc (f : Lku → Lku) (s : State) : (s.onLku f).pbc = s.pbc := rfl
@[simp] theorem State.onLku_clu (f : Lku → Lku) (s : State) : (s.onLku f).clu = s.clu := rfl
@[simp] theorem State.onLku_vu (f : Lku → Lku) (s : State) : (s.onLku f).vu = s.vu := rfl
@[simp] theorem State.onLku_lku (f : Lku → Lku) (s : State) : (s.onLku f).lku = f s.lku := rfl
@[simp] theorem State.onLku_freeIdx (f : Lku → Lku) (s : State) : (s.onLku f).freeIdx = s.freeIdx := rfl
@[simp] theorem State.onLku_pending (f : Lku → Lku) (s : State) : (s.onLku f).pending = s.pending := rfl

@[simp] theorem State.nextFree_now (s : State) : (s.nextFree).now = s.now := rfl
@[simp] theorem State.nextFree_inReset (s : State) : (s.nextFree).inReset = s.inReset := rfl
@[simp] theorem State.nextFree_scu (s : State) : (s.nextFree).scu = s.scu := rfl
@[simp] theorem State.nextFree_tmu (s : State) : (s.nextFree).tmu = s.tmu := rfl
@[simp] theorem State.nextFree_store (s : State) : (s.nextFree).store = s.store := rfl
@[simp] theorem State.nextFree_cue (s : State) : (s.nextFree).cue = s.cue := rfl
@[simp] theorem State.nextFree_pdu (s : State) : (s.nextFree).pdu = s.pdu := rfl
@[simp] theorem State.nextFree_pbc (s : State) : (s.nextFree).pbc = s.pbc := rfl
@[simp] theorem State.nextFree_clu (s : State) : (s.nextFree).clu = s.clu := rfl
@[simp] theorem State.nextFree_vu (s : State) : (s.nextFree).vu = s.vu := rfl
@[simp] theorem State.nextFree_lku (s : State) : (s.nextFree).lku = s.lku := rfl
@[simp] theorem State.nextFree_freeIdx (s : State) : (s.nextFree).freeIdx = s.freeIdx + 1 := rfl
@[simp] theorem State.nextFree_pending (s : State) : (s.nextFree).pending = s.pending := rfl

@[simp] theorem State.withPending_now (q : List Instr) (s : State) : (s.withPending q).now = s.now := rfl
@[simp] theorem State.withPending_inReset (q : List Instr) (s : State) : (s.withPending q).inReset = s.inReset := rfl
@[simp] theorem State.withPending_scu (q : List Instr) (s : State) : (s.withPending q).scu = s.scu := rfl
@[simp] theorem State.withPending_tmu (q : List Instr) (s : State) : (s.withPending q).tmu = s.tmu := rfl
@[simp] theorem State.withPending_store (q : List Instr) (s : State) : (s.withPending q).store = s.store := rfl
@[simp] theorem State.withPending_cue (q : List Instr) (s : State) : (s.withPending q).cue = s.cue := rfl
@[simp] theorem State.withPending_pdu (q : List Instr) (s : State) : (s.withPending q).pdu = s.pdu := rfl
@[simp] theorem State.withPending_pbc (q : List Instr) (s : State) : (s.withPending q).pbc = s.pbc := rfl
@[simp] theorem State.withPending_clu (q : List Instr) (s : State) : (s.withPending q).clu = s.clu := rfl
@[simp] theorem State.withPending_vu (q : List Instr) (s : State) : (s.withPending q).vu = s.vu := rfl
@[simp] theorem State.withPending_lku (q : List Instr) (s : State) : (s.withPending q).lku = s.lku := rfl
@[simp] theorem State.withPending_freeIdx (q : List Instr) (s : State) : (s.withPending q).freeIdx = s.freeIdx := rfl
@[simp] theorem State.withPending_pending (q : List Instr) (s : State) : (s.withPending q).pending = q := rfl

@[simp] theorem State.onLink_now (l : Link) (f : LinkRecord → LinkRecord) (s : State) : (s.onLink l f).now = s.now := rfl
@[simp] theorem State.onLink_inReset (l : Link) (f : LinkRecord → LinkRecord) (s : State) : (s.onLink l f).inReset = s.inReset := rfl
@[simp] theorem State.onLink_scu (l : Link) (f : LinkRecord → LinkRecord) (s : State) : (s.onLink l f).scu = s.scu := rfl
@[simp] theorem State.onLink_tmu (l : Link) (f : LinkRecord → LinkRecord) (s : State) : (s.onLink l f).tmu = s.tmu := rfl
@[simp] theorem State.onLink_store (l : Link) (f : LinkRecord → LinkRecord) (s : State) : (s.onLink l f).store = s.store := rfl
@[simp] theorem State.onLink_cue (l : Link) (f : LinkRecord → LinkRecord) (s : State) : (s.onLink l f).cue = s.cue := rfl
@[simp] theorem State.onLink_pdu (l : Link) (f : LinkRecord → LinkRecord) (s : State) : (s.onLink l f).pdu = s.pdu := rfl
@[simp] theorem State.onLink_pbc (l : Link) (f : LinkRecord → LinkRecord) (s : State) : (s.onLink l f).pbc = s.pbc := rfl
@[simp] theorem State.onLink_clu (l : Link) (f : LinkRecord → LinkRecord) (s : State) : (s.onLink l f).clu = s.clu := rfl
@[simp] theorem State.onLink_vu (l : Link) (f : LinkRecord → LinkRecord) (s : State) : (s.onLink l f).vu = s.vu := rfl
@[simp] theorem State.onLink_freeIdx (l : Link) (f : LinkRecord → LinkRecord) (s : State) : (s.onLink l f).freeIdx = s.freeIdx := rfl
@[simp] theorem State.onLink_pending (l : Link) (f : LinkRecord → LinkRecord) (s : State) : (s.onLink l f).pending = s.pending := rfl

@[simp] theorem State.onCam_now (c : Podium) (f : Camera → Camera) (s : State) : (s.onCam c f).now = s.now := rfl
@[simp] theorem State.onCam_inReset (c : Podium) (f : Camera → Camera) (s : State) : (s.onCam c f).inReset = s.inReset := rfl
@[simp] theorem State.onCam_scu (c : Podium) (f : Camera → Camera) (s : State) : (s.onCam c f).scu = s.scu := rfl
@[simp] theorem State.onCam_tmu (c : Podium) (f : Camera → Camera) (s : State) : (s.onCam c f).tmu = s.tmu := rfl
@[simp] theorem State.onCam_store (c : Podium) (f : Camera → Camera) (s : State) : (s.onCam c f).store = s.store := rfl
@[simp] theorem State.onCam_cue (c : Podium) (f : Camera → Camera) (s : State) : (s.onCam c f).cue = s.cue := rfl
@[simp] theorem State.onCam_pdu (c : Podium) (f : Camera → Camera) (s : State) : (s.onCam c f).pdu = s.pdu := rfl
@[simp] theorem State.onCam_pbc (c : Podium) (f : Camera → Camera) (s : State) : (s.onCam c f).pbc = s.pbc := rfl
@[simp] theorem State.onCam_clu (c : Podium) (f : Camera → Camera) (s : State) : (s.onCam c f).clu = s.clu := rfl
@[simp] theorem State.onCam_lku (c : Podium) (f : Camera → Camera) (s : State) : (s.onCam c f).lku = s.lku := rfl
@[simp] theorem State.onCam_freeIdx (c : Podium) (f : Camera → Camera) (s : State) : (s.onCam c f).freeIdx = s.freeIdx := rfl
@[simp] theorem State.onCam_pending (c : Podium) (f : Camera → Camera) (s : State) : (s.onCam c f).pending = s.pending := rfl

@[simp] theorem State.onLane_now (n : Nat) (f : Lane → Lane) (s : State) : (s.onLane n f).now = s.now := rfl
@[simp] theorem State.onLane_inReset (n : Nat) (f : Lane → Lane) (s : State) : (s.onLane n f).inReset = s.inReset := rfl
@[simp] theorem State.onLane_scu (n : Nat) (f : Lane → Lane) (s : State) : (s.onLane n f).scu = s.scu := rfl
@[simp] theorem State.onLane_tmu (n : Nat) (f : Lane → Lane) (s : State) : (s.onLane n f).tmu = s.tmu := rfl
@[simp] theorem State.onLane_store (n : Nat) (f : Lane → Lane) (s : State) : (s.onLane n f).store = s.store := rfl
@[simp] theorem State.onLane_cue (n : Nat) (f : Lane → Lane) (s : State) : (s.onLane n f).cue = s.cue := rfl
@[simp] theorem State.onLane_pdu (n : Nat) (f : Lane → Lane) (s : State) : (s.onLane n f).pdu = s.pdu := rfl
@[simp] theorem State.onLane_pbc (n : Nat) (f : Lane → Lane) (s : State) : (s.onLane n f).pbc = s.pbc := rfl
@[simp] theorem State.onLane_vu (n : Nat) (f : Lane → Lane) (s : State) : (s.onLane n f).vu = s.vu := rfl
@[simp] theorem State.onLane_lku (n : Nat) (f : Lane → Lane) (s : State) : (s.onLane n f).lku = s.lku := rfl
@[simp] theorem State.onLane_freeIdx (n : Nat) (f : Lane → Lane) (s : State) : (s.onLane n f).freeIdx = s.freeIdx := rfl
@[simp] theorem State.onLane_pending (n : Nat) (f : Lane → Lane) (s : State) : (s.onLane n f).pending = s.pending := rfl

@[simp] theorem State.onFeed_now (n : Nat) (f : Feed → Feed) (s : State) : (s.onFeed n f).now = s.now := rfl
@[simp] theorem State.onFeed_inReset (n : Nat) (f : Feed → Feed) (s : State) : (s.onFeed n f).inReset = s.inReset := rfl
@[simp] theorem State.onFeed_scu (n : Nat) (f : Feed → Feed) (s : State) : (s.onFeed n f).scu = s.scu := rfl
@[simp] theorem State.onFeed_tmu (n : Nat) (f : Feed → Feed) (s : State) : (s.onFeed n f).tmu = s.tmu := rfl
@[simp] theorem State.onFeed_store (n : Nat) (f : Feed → Feed) (s : State) : (s.onFeed n f).store = s.store := rfl
@[simp] theorem State.onFeed_cue (n : Nat) (f : Feed → Feed) (s : State) : (s.onFeed n f).cue = s.cue := rfl
@[simp] theorem State.onFeed_pdu (n : Nat) (f : Feed → Feed) (s : State) : (s.onFeed n f).pdu = s.pdu := rfl
@[simp] theorem State.onFeed_pbc (n : Nat) (f : Feed → Feed) (s : State) : (s.onFeed n f).pbc = s.pbc := rfl
@[simp] theorem State.onFeed_clu (n : Nat) (f : Feed → Feed) (s : State) : (s.onFeed n f).clu = s.clu := rfl
@[simp] theorem State.onFeed_lku (n : Nat) (f : Feed → Feed) (s : State) : (s.onFeed n f).lku = s.lku := rfl
@[simp] theorem State.onFeed_freeIdx (n : Nat) (f : Feed → Feed) (s : State) : (s.onFeed n f).freeIdx = s.freeIdx := rfl
@[simp] theorem State.onFeed_pending (n : Nat) (f : Feed → Feed) (s : State) : (s.onFeed n f).pending = s.pending := rfl

@[simp] theorem State.onQueue_now (n : Nat) (f : List Entry → List Entry) (s : State) : (s.onQueue n f).now = s.now := rfl
@[simp] theorem State.onQueue_inReset (n : Nat) (f : List Entry → List Entry) (s : State) : (s.onQueue n f).inReset = s.inReset := rfl
@[simp] theorem State.onQueue_scu (n : Nat) (f : List Entry → List Entry) (s : State) : (s.onQueue n f).scu = s.scu := rfl
@[simp] theorem State.onQueue_tmu (n : Nat) (f : List Entry → List Entry) (s : State) : (s.onQueue n f).tmu = s.tmu := rfl
@[simp] theorem State.onQueue_store (n : Nat) (f : List Entry → List Entry) (s : State) : (s.onQueue n f).store = s.store := rfl
@[simp] theorem State.onQueue_cue (n : Nat) (f : List Entry → List Entry) (s : State) : (s.onQueue n f).cue = s.cue := rfl
@[simp] theorem State.onQueue_pbc (n : Nat) (f : List Entry → List Entry) (s : State) : (s.onQueue n f).pbc = s.pbc := rfl
@[simp] theorem State.onQueue_clu (n : Nat) (f : List Entry → List Entry) (s : State) : (s.onQueue n f).clu = s.clu := rfl
@[simp] theorem State.onQueue_vu (n : Nat) (f : List Entry → List Entry) (s : State) : (s.onQueue n f).vu = s.vu := rfl
@[simp] theorem State.onQueue_lku (n : Nat) (f : List Entry → List Entry) (s : State) : (s.onQueue n f).lku = s.lku := rfl
@[simp] theorem State.onQueue_freeIdx (n : Nat) (f : List Entry → List Entry) (s : State) : (s.onQueue n f).freeIdx = s.freeIdx := rfl
@[simp] theorem State.onQueue_pending (n : Nat) (f : List Entry → List Entry) (s : State) : (s.onQueue n f).pending = s.pending := rfl
@[simp] theorem State.onQueue_outstanding (n : Nat) (f : List Entry → List Entry) (s : State) :
    (s.onQueue n f).pdu.outstanding = s.pdu.outstanding := rfl

@[simp] theorem State.onEntry_now (n : Nat) (q : Count32) (f : Entry → Entry) (s : State) : (s.onEntry n q f).now = s.now := rfl
@[simp] theorem State.onEntry_inReset (n : Nat) (q : Count32) (f : Entry → Entry) (s : State) : (s.onEntry n q f).inReset = s.inReset := rfl
@[simp] theorem State.onEntry_scu (n : Nat) (q : Count32) (f : Entry → Entry) (s : State) : (s.onEntry n q f).scu = s.scu := rfl
@[simp] theorem State.onEntry_tmu (n : Nat) (q : Count32) (f : Entry → Entry) (s : State) : (s.onEntry n q f).tmu = s.tmu := rfl
@[simp] theorem State.onEntry_store (n : Nat) (q : Count32) (f : Entry → Entry) (s : State) : (s.onEntry n q f).store = s.store := rfl
@[simp] theorem State.onEntry_cue (n : Nat) (q : Count32) (f : Entry → Entry) (s : State) : (s.onEntry n q f).cue = s.cue := rfl
@[simp] theorem State.onEntry_pbc (n : Nat) (q : Count32) (f : Entry → Entry) (s : State) : (s.onEntry n q f).pbc = s.pbc := rfl
@[simp] theorem State.onEntry_clu (n : Nat) (q : Count32) (f : Entry → Entry) (s : State) : (s.onEntry n q f).clu = s.clu := rfl
@[simp] theorem State.onEntry_vu (n : Nat) (q : Count32) (f : Entry → Entry) (s : State) : (s.onEntry n q f).vu = s.vu := rfl
@[simp] theorem State.onEntry_lku (n : Nat) (q : Count32) (f : Entry → Entry) (s : State) : (s.onEntry n q f).lku = s.lku := rfl
@[simp] theorem State.onEntry_freeIdx (n : Nat) (q : Count32) (f : Entry → Entry) (s : State) : (s.onEntry n q f).freeIdx = s.freeIdx := rfl
@[simp] theorem State.onEntry_pending (n : Nat) (q : Count32) (f : Entry → Entry) (s : State) : (s.onEntry n q f).pending = s.pending := rfl

@[simp] theorem State.onClosures_now (n : Nat) (f : Closures → Closures) (s : State) : (s.onClosures n f).now = s.now := rfl
@[simp] theorem State.onClosures_inReset (n : Nat) (f : Closures → Closures) (s : State) : (s.onClosures n f).inReset = s.inReset := rfl
@[simp] theorem State.onClosures_scu (n : Nat) (f : Closures → Closures) (s : State) : (s.onClosures n f).scu = s.scu := rfl
@[simp] theorem State.onClosures_tmu (n : Nat) (f : Closures → Closures) (s : State) : (s.onClosures n f).tmu = s.tmu := rfl
@[simp] theorem State.onClosures_store (n : Nat) (f : Closures → Closures) (s : State) : (s.onClosures n f).store = s.store := rfl
@[simp] theorem State.onClosures_cue (n : Nat) (f : Closures → Closures) (s : State) : (s.onClosures n f).cue = s.cue := rfl
@[simp] theorem State.onClosures_pbc (n : Nat) (f : Closures → Closures) (s : State) : (s.onClosures n f).pbc = s.pbc := rfl
@[simp] theorem State.onClosures_clu (n : Nat) (f : Closures → Closures) (s : State) : (s.onClosures n f).clu = s.clu := rfl
@[simp] theorem State.onClosures_vu (n : Nat) (f : Closures → Closures) (s : State) : (s.onClosures n f).vu = s.vu := rfl
@[simp] theorem State.onClosures_lku (n : Nat) (f : Closures → Closures) (s : State) : (s.onClosures n f).lku = s.lku := rfl
@[simp] theorem State.onClosures_freeIdx (n : Nat) (f : Closures → Closures) (s : State) : (s.onClosures n f).freeIdx = s.freeIdx := rfl
@[simp] theorem State.onClosures_pending (n : Nat) (f : Closures → Closures) (s : State) : (s.onClosures n f).pending = s.pending := rfl
@[simp] theorem State.onClosures_outstanding (n : Nat) (f : Closures → Closures) (s : State) :
    (s.onClosures n f).pdu.outstanding = s.pdu.outstanding := rfl

@[simp] theorem State.onStation_now (n : Nat) (f : Station → Station) (s : State) : (s.onStation n f).now = s.now := rfl
@[simp] theorem State.onStation_inReset (n : Nat) (f : Station → Station) (s : State) : (s.onStation n f).inReset = s.inReset := rfl
@[simp] theorem State.onStation_scu (n : Nat) (f : Station → Station) (s : State) : (s.onStation n f).scu = s.scu := rfl
@[simp] theorem State.onStation_tmu (n : Nat) (f : Station → Station) (s : State) : (s.onStation n f).tmu = s.tmu := rfl
@[simp] theorem State.onStation_store (n : Nat) (f : Station → Station) (s : State) : (s.onStation n f).store = s.store := rfl
@[simp] theorem State.onStation_cue (n : Nat) (f : Station → Station) (s : State) : (s.onStation n f).cue = s.cue := rfl
@[simp] theorem State.onStation_pdu (n : Nat) (f : Station → Station) (s : State) : (s.onStation n f).pdu = s.pdu := rfl
@[simp] theorem State.onStation_clu (n : Nat) (f : Station → Station) (s : State) : (s.onStation n f).clu = s.clu := rfl
@[simp] theorem State.onStation_vu (n : Nat) (f : Station → Station) (s : State) : (s.onStation n f).vu = s.vu := rfl
@[simp] theorem State.onStation_lku (n : Nat) (f : Station → Station) (s : State) : (s.onStation n f).lku = s.lku := rfl
@[simp] theorem State.onStation_freeIdx (n : Nat) (f : Station → Station) (s : State) : (s.onStation n f).freeIdx = s.freeIdx := rfl
@[simp] theorem State.onStation_pending (n : Nat) (f : Station → Station) (s : State) : (s.onStation n f).pending = s.pending := rfl

@[simp] theorem State.onCues_now (f : CueEntry → CueEntry) (s : State) : (s.onCues f).now = s.now := rfl
@[simp] theorem State.onCues_inReset (f : CueEntry → CueEntry) (s : State) : (s.onCues f).inReset = s.inReset := rfl
@[simp] theorem State.onCues_scu (f : CueEntry → CueEntry) (s : State) : (s.onCues f).scu = s.scu := rfl
@[simp] theorem State.onCues_tmu (f : CueEntry → CueEntry) (s : State) : (s.onCues f).tmu = s.tmu := rfl
@[simp] theorem State.onCues_cue (f : CueEntry → CueEntry) (s : State) : (s.onCues f).cue = s.cue := rfl
@[simp] theorem State.onCues_pdu (f : CueEntry → CueEntry) (s : State) : (s.onCues f).pdu = s.pdu := rfl
@[simp] theorem State.onCues_pbc (f : CueEntry → CueEntry) (s : State) : (s.onCues f).pbc = s.pbc := rfl
@[simp] theorem State.onCues_clu (f : CueEntry → CueEntry) (s : State) : (s.onCues f).clu = s.clu := rfl
@[simp] theorem State.onCues_vu (f : CueEntry → CueEntry) (s : State) : (s.onCues f).vu = s.vu := rfl
@[simp] theorem State.onCues_lku (f : CueEntry → CueEntry) (s : State) : (s.onCues f).lku = s.lku := rfl
@[simp] theorem State.onCues_freeIdx (f : CueEntry → CueEntry) (s : State) : (s.onCues f).freeIdx = s.freeIdx := rfl
@[simp] theorem State.onCues_pending (f : CueEntry → CueEntry) (s : State) : (s.onCues f).pending = s.pending := rfl

@[simp] theorem State.onMark_now (n : Nat) (f : CueEntry → CueEntry) (s : State) : (s.onMark n f).now = s.now := rfl
@[simp] theorem State.onMark_inReset (n : Nat) (f : CueEntry → CueEntry) (s : State) : (s.onMark n f).inReset = s.inReset := rfl
@[simp] theorem State.onMark_scu (n : Nat) (f : CueEntry → CueEntry) (s : State) : (s.onMark n f).scu = s.scu := rfl
@[simp] theorem State.onMark_tmu (n : Nat) (f : CueEntry → CueEntry) (s : State) : (s.onMark n f).tmu = s.tmu := rfl
@[simp] theorem State.onMark_cue (n : Nat) (f : CueEntry → CueEntry) (s : State) : (s.onMark n f).cue = s.cue := rfl
@[simp] theorem State.onMark_pdu (n : Nat) (f : CueEntry → CueEntry) (s : State) : (s.onMark n f).pdu = s.pdu := rfl
@[simp] theorem State.onMark_pbc (n : Nat) (f : CueEntry → CueEntry) (s : State) : (s.onMark n f).pbc = s.pbc := rfl
@[simp] theorem State.onMark_clu (n : Nat) (f : CueEntry → CueEntry) (s : State) : (s.onMark n f).clu = s.clu := rfl
@[simp] theorem State.onMark_vu (n : Nat) (f : CueEntry → CueEntry) (s : State) : (s.onMark n f).vu = s.vu := rfl
@[simp] theorem State.onMark_lku (n : Nat) (f : CueEntry → CueEntry) (s : State) : (s.onMark n f).lku = s.lku := rfl
@[simp] theorem State.onMark_freeIdx (n : Nat) (f : CueEntry → CueEntry) (s : State) : (s.onMark n f).freeIdx = s.freeIdx := rfl
@[simp] theorem State.onMark_pending (n : Nat) (f : CueEntry → CueEntry) (s : State) : (s.onMark n f).pending = s.pending := rfl

@[simp] theorem setShow_now (x : ShowState) (s : State) : (setShow x s).now = s.now := rfl
@[simp] theorem setShow_inReset (x : ShowState) (s : State) : (setShow x s).inReset = s.inReset := rfl
@[simp] theorem setShow_tmu (x : ShowState) (s : State) : (setShow x s).tmu = s.tmu := rfl
@[simp] theorem setShow_store (x : ShowState) (s : State) : (setShow x s).store = s.store := rfl
@[simp] theorem setShow_cue (x : ShowState) (s : State) : (setShow x s).cue = s.cue := rfl
@[simp] theorem setShow_pdu (x : ShowState) (s : State) : (setShow x s).pdu = s.pdu := rfl
@[simp] theorem setShow_pbc (x : ShowState) (s : State) : (setShow x s).pbc = s.pbc := rfl
@[simp] theorem setShow_clu (x : ShowState) (s : State) : (setShow x s).clu = s.clu := rfl
@[simp] theorem setShow_vu (x : ShowState) (s : State) : (setShow x s).vu = s.vu := rfl
@[simp] theorem setShow_lku (x : ShowState) (s : State) : (setShow x s).lku = s.lku := rfl
@[simp] theorem setShow_freeIdx (x : ShowState) (s : State) : (setShow x s).freeIdx = s.freeIdx := rfl
@[simp] theorem setShow_pending (x : ShowState) (s : State) : (setShow x s).pending = s.pending := rfl

@[simp] theorem setPosition_now (x : Position) (s : State) : (setPosition x s).now = s.now := rfl
@[simp] theorem setPosition_inReset (x : Position) (s : State) : (setPosition x s).inReset = s.inReset := rfl
@[simp] theorem setPosition_tmu (x : Position) (s : State) : (setPosition x s).tmu = s.tmu := rfl
@[simp] theorem setPosition_store (x : Position) (s : State) : (setPosition x s).store = s.store := rfl
@[simp] theorem setPosition_cue (x : Position) (s : State) : (setPosition x s).cue = s.cue := rfl
@[simp] theorem setPosition_pdu (x : Position) (s : State) : (setPosition x s).pdu = s.pdu := rfl
@[simp] theorem setPosition_pbc (x : Position) (s : State) : (setPosition x s).pbc = s.pbc := rfl
@[simp] theorem setPosition_clu (x : Position) (s : State) : (setPosition x s).clu = s.clu := rfl
@[simp] theorem setPosition_vu (x : Position) (s : State) : (setPosition x s).vu = s.vu := rfl
@[simp] theorem setPosition_lku (x : Position) (s : State) : (setPosition x s).lku = s.lku := rfl
@[simp] theorem setPosition_freeIdx (x : Position) (s : State) : (setPosition x s).freeIdx = s.freeIdx := rfl
@[simp] theorem setPosition_pending (x : Position) (s : State) : (setPosition x s).pending = s.pending := rfl

@[simp] theorem setPatch_now (n k : Nat) (p : Option Nat) (s : State) : (setPatch n k p s).now = s.now := rfl
@[simp] theorem setPatch_inReset (n k : Nat) (p : Option Nat) (s : State) : (setPatch n k p s).inReset = s.inReset := rfl
@[simp] theorem setPatch_scu (n k : Nat) (p : Option Nat) (s : State) : (setPatch n k p s).scu = s.scu := rfl
@[simp] theorem setPatch_tmu (n k : Nat) (p : Option Nat) (s : State) : (setPatch n k p s).tmu = s.tmu := rfl
@[simp] theorem setPatch_store (n k : Nat) (p : Option Nat) (s : State) : (setPatch n k p s).store = s.store := rfl
@[simp] theorem setPatch_cue (n k : Nat) (p : Option Nat) (s : State) : (setPatch n k p s).cue = s.cue := rfl
@[simp] theorem setPatch_pdu (n k : Nat) (p : Option Nat) (s : State) : (setPatch n k p s).pdu = s.pdu := rfl
@[simp] theorem setPatch_clu (n k : Nat) (p : Option Nat) (s : State) : (setPatch n k p s).clu = s.clu := rfl
@[simp] theorem setPatch_vu (n k : Nat) (p : Option Nat) (s : State) : (setPatch n k p s).vu = s.vu := rfl
@[simp] theorem setPatch_lku (n k : Nat) (p : Option Nat) (s : State) : (setPatch n k p s).lku = s.lku := rfl
@[simp] theorem setPatch_freeIdx (n k : Nat) (p : Option Nat) (s : State) : (setPatch n k p s).freeIdx = s.freeIdx := rfl
@[simp] theorem setPatch_pending (n k : Nat) (p : Option Nat) (s : State) : (setPatch n k p s).pending = s.pending := rfl

@[simp] theorem removeEntry_now (e : Entry) (s : State) : (removeEntry e s).now = s.now := rfl
@[simp] theorem removeEntry_inReset (e : Entry) (s : State) : (removeEntry e s).inReset = s.inReset := rfl
@[simp] theorem removeEntry_scu (e : Entry) (s : State) : (removeEntry e s).scu = s.scu := rfl
@[simp] theorem removeEntry_tmu (e : Entry) (s : State) : (removeEntry e s).tmu = s.tmu := rfl
@[simp] theorem removeEntry_store (e : Entry) (s : State) : (removeEntry e s).store = s.store := rfl
@[simp] theorem removeEntry_cue (e : Entry) (s : State) : (removeEntry e s).cue = s.cue := rfl
@[simp] theorem removeEntry_pbc (e : Entry) (s : State) : (removeEntry e s).pbc = s.pbc := rfl
@[simp] theorem removeEntry_clu (e : Entry) (s : State) : (removeEntry e s).clu = s.clu := rfl
@[simp] theorem removeEntry_vu (e : Entry) (s : State) : (removeEntry e s).vu = s.vu := rfl
@[simp] theorem removeEntry_lku (e : Entry) (s : State) : (removeEntry e s).lku = s.lku := rfl
@[simp] theorem removeEntry_freeIdx (e : Entry) (s : State) : (removeEntry e s).freeIdx = s.freeIdx := rfl
@[simp] theorem removeEntry_pending (e : Entry) (s : State) : (removeEntry e s).pending = s.pending := rfl

@[simp] theorem raiseNotice_now (b : NoticeBody) (s : State) : (raiseNotice b s).now = s.now := rfl
@[simp] theorem raiseNotice_inReset (b : NoticeBody) (s : State) : (raiseNotice b s).inReset = s.inReset := rfl
@[simp] theorem raiseNotice_scu (b : NoticeBody) (s : State) : (raiseNotice b s).scu = s.scu := rfl
@[simp] theorem raiseNotice_tmu (b : NoticeBody) (s : State) : (raiseNotice b s).tmu = s.tmu := rfl
@[simp] theorem raiseNotice_store (b : NoticeBody) (s : State) : (raiseNotice b s).store = s.store := rfl
@[simp] theorem raiseNotice_cue (b : NoticeBody) (s : State) : (raiseNotice b s).cue = s.cue := rfl
@[simp] theorem raiseNotice_pdu (b : NoticeBody) (s : State) : (raiseNotice b s).pdu = s.pdu := rfl
@[simp] theorem raiseNotice_pbc (b : NoticeBody) (s : State) : (raiseNotice b s).pbc = s.pbc := rfl
@[simp] theorem raiseNotice_clu (b : NoticeBody) (s : State) : (raiseNotice b s).clu = s.clu := rfl
@[simp] theorem raiseNotice_vu (b : NoticeBody) (s : State) : (raiseNotice b s).vu = s.vu := rfl
@[simp] theorem raiseNotice_freeIdx (b : NoticeBody) (s : State) : (raiseNotice b s).freeIdx = s.freeIdx := rfl
@[simp] theorem raiseNotice_pending (b : NoticeBody) (s : State) : (raiseNotice b s).pending = s.pending := rfl

@[simp] theorem raiseEvent_now (c : Cond) (s : State) : (raiseEvent c s).now = s.now := rfl
@[simp] theorem raiseEvent_inReset (c : Cond) (s : State) : (raiseEvent c s).inReset = s.inReset := rfl
@[simp] theorem raiseEvent_scu (c : Cond) (s : State) : (raiseEvent c s).scu = s.scu := rfl
@[simp] theorem raiseEvent_tmu (c : Cond) (s : State) : (raiseEvent c s).tmu = s.tmu := rfl
@[simp] theorem raiseEvent_store (c : Cond) (s : State) : (raiseEvent c s).store = s.store := rfl
@[simp] theorem raiseEvent_cue (c : Cond) (s : State) : (raiseEvent c s).cue = s.cue := rfl
@[simp] theorem raiseEvent_pdu (c : Cond) (s : State) : (raiseEvent c s).pdu = s.pdu := rfl
@[simp] theorem raiseEvent_pbc (c : Cond) (s : State) : (raiseEvent c s).pbc = s.pbc := rfl
@[simp] theorem raiseEvent_clu (c : Cond) (s : State) : (raiseEvent c s).clu = s.clu := rfl
@[simp] theorem raiseEvent_vu (c : Cond) (s : State) : (raiseEvent c s).vu = s.vu := rfl
@[simp] theorem raiseEvent_freeIdx (c : Cond) (s : State) : (raiseEvent c s).freeIdx = s.freeIdx := rfl
@[simp] theorem raiseEvent_pending (c : Cond) (s : State) : (raiseEvent c s).pending = s.pending := rfl

@[simp] theorem setCondition_now (c : Cond) (v : Bool) (s : State) : (setCondition c v s).now = s.now := by
  unfold setCondition; split <;> rfl
@[simp] theorem setCondition_inReset (c : Cond) (v : Bool) (s : State) : (setCondition c v s).inReset = s.inReset := by
  unfold setCondition; split <;> rfl
@[simp] theorem setCondition_scu (c : Cond) (v : Bool) (s : State) : (setCondition c v s).scu = s.scu := by
  unfold setCondition; split <;> rfl
@[simp] theorem setCondition_tmu (c : Cond) (v : Bool) (s : State) : (setCondition c v s).tmu = s.tmu := by
  unfold setCondition; split <;> rfl
@[simp] theorem setCondition_store (c : Cond) (v : Bool) (s : State) : (setCondition c v s).store = s.store := by
  unfold setCondition; split <;> rfl
@[simp] theorem setCondition_cue (c : Cond) (v : Bool) (s : State) : (setCondition c v s).cue = s.cue := by
  unfold setCondition; split <;> rfl
@[simp] theorem setCondition_pdu (c : Cond) (v : Bool) (s : State) : (setCondition c v s).pdu = s.pdu := by
  unfold setCondition; split <;> rfl
@[simp] theorem setCondition_pbc (c : Cond) (v : Bool) (s : State) : (setCondition c v s).pbc = s.pbc := by
  unfold setCondition; split <;> rfl
@[simp] theorem setCondition_clu (c : Cond) (v : Bool) (s : State) : (setCondition c v s).clu = s.clu := by
  unfold setCondition; split <;> rfl
@[simp] theorem setCondition_vu (c : Cond) (v : Bool) (s : State) : (setCondition c v s).vu = s.vu := by
  unfold setCondition; split <;> rfl
@[simp] theorem setCondition_freeIdx (c : Cond) (v : Bool) (s : State) : (setCondition c v s).freeIdx = s.freeIdx := by
  unfold setCondition; split <;> rfl
@[simp] theorem setCondition_pending (c : Cond) (v : Bool) (s : State) : (setCondition c v s).pending = s.pending := by
  unfold setCondition; split <;> rfl

/-- Every link's record, by link. -/
@[simp] theorem Lku.link_onLink (k : Lku) (l m : Link) (f : LinkRecord → LinkRecord) :
    (k.onLink l f).link m = if m = l then f (k.link m) else k.link m := by
  cases l <;> cases m <;> rfl

@[simp] theorem Lku.current_onLink (k : Lku) (l : Link) (f : LinkRecord → LinkRecord) :
    (k.onLink l f).current = k.current := by cases l <;> rfl

@[simp] theorem Lku.latched_onLink (k : Lku) (l : Link) (f : LinkRecord → LinkRecord) :
    (k.onLink l f).latched = k.latched := by cases l <;> rfl

@[simp] theorem State.lku_onLink (s : State) (l : Link) (f : LinkRecord → LinkRecord) :
    (s.onLink l f).lku = s.lku.onLink l f := rfl

@[simp] theorem setShow_showState (x : ShowState) (s : State) : (setShow x s).scu.showState = x := rfl

@[simp] theorem setShow_position (x : ShowState) (s : State) :
    (setShow x s).scu.position = s.scu.position := rfl

@[simp] theorem setPosition_position (p : Position) (s : State) : (setPosition p s).scu.position = p := rfl

@[simp] theorem setPosition_showState (p : Position) (s : State) :
    (setPosition p s).scu.showState = s.scu.showState := rfl

/-! ## The beats emitted (R48, R49) -/

@[simp] theorem EmittedBeat.unmarked_unmarked (b : EmittedBeat) : b.unmarked.unmarked = b.unmarked := rfl

@[simp] theorem EmittedBeat.unmarked_reopen (b : EmittedBeat) : b.reopen.unmarked = b.unmarked := rfl

@[simp] theorem EmittedBeat.checked_check (b : EmittedBeat) : b.checked.check = none := rfl

@[simp] theorem Tmu.endGrid_emitted (t : Tmu) : t.endGrid.emitted = [] := rfl

@[simp] theorem Tmu.endGrid_pendingMark (t : Tmu) : t.endGrid.pendingMark = none := rfl

@[simp] theorem Tmu.endGrid_p16 (t : Tmu) : t.endGrid.p16 = t.p16 := rfl

/-- The end of a grid leaves the last beat emitted as that of an earlier grid, without mark and check. -/
@[simp] theorem Tmu.endGrid_prior (t : Tmu) : t.endGrid.prior = t.lastBeat.map EmittedBeat.unmarked := by
  simp only [Tmu.endGrid, Tmu.lastBeat, Tmu.dropMarks]
  cases t.emitted.getLast? <;> rfl

/-- Clearing the estimator changes the last beat emitted in its mark alone. -/
@[simp] theorem Tmu.clearEstimator_lastBeat (t : Tmu) :
    t.clearEstimator.lastBeat = t.lastBeat.map EmittedBeat.reopen := by
  simp only [Tmu.clearEstimator, Tmu.lastBeat, List.getLast?_map]
  cases t.emitted.getLast? <;> simp

end Sys2Proof.Machine
end

