-- ==== Sys2Proof/Laws/Frame.lean ====
section
/-! SUPPORT. The frame of each shared operation, once: which blocks it leaves as they were, and that it forms
no response. Each is one simp lemma a part of which rewrites each block. -/

namespace Sys2Proof.Machine

/-- A fold of steps that keep a field keeps it. -/
theorem foldl_keeps {α γ : Type} (k : State → γ) (f : State → α → State) (h : ∀ s a, k (f s a) = k s)
    (l : List α) (s : State) : k (l.foldl f s) = k s := by
  induction l generalizing s with
  | nil => rfl
  | cons a l ih => simp [ih, h]

@[simp] theorem foldl_now {α : Type} (f : State → α → State) (h : ∀ s a, (f s a).now = s.now) (l : List α)
    (s : State) : (l.foldl f s).now = s.now := foldl_keeps State.now f h l s
@[simp] theorem ite_now (c : Prop) [Decidable c] (a b : State) :
    (if c then a else b).now = if c then a.now else b.now := apply_ite State.now c a b
@[simp] theorem foldl_inReset {α : Type} (f : State → α → State) (h : ∀ s a, (f s a).inReset = s.inReset) (l : List α)
    (s : State) : (l.foldl f s).inReset = s.inReset := foldl_keeps State.inReset f h l s
@[simp] theorem ite_inReset (c : Prop) [Decidable c] (a b : State) :
    (if c then a else b).inReset = if c then a.inReset else b.inReset := apply_ite State.inReset c a b
@[simp] theorem foldl_scu {α : Type} (f : State → α → State) (h : ∀ s a, (f s a).scu = s.scu) (l : List α)
    (s : State) : (l.foldl f s).scu = s.scu := foldl_keeps State.scu f h l s
@[simp] theorem ite_scu (c : Prop) [Decidable c] (a b : State) :
    (if c then a else b).scu = if c then a.scu else b.scu := apply_ite State.scu c a b
@[simp] theorem foldl_tmu {α : Type} (f : State → α → State) (h : ∀ s a, (f s a).tmu = s.tmu) (l : List α)
    (s : State) : (l.foldl f s).tmu = s.tmu := foldl_keeps State.tmu f h l s
@[simp] theorem ite_tmu (c : Prop) [Decidable c] (a b : State) :
    (if c then a else b).tmu = if c then a.tmu else b.tmu := apply_ite State.tmu c a b
@[simp] theorem foldl_store {α : Type} (f : State → α → State) (h : ∀ s a, (f s a).store = s.store) (l : List α)
    (s : State) : (l.foldl f s).store = s.store := foldl_keeps State.store f h l s
@[simp] theorem ite_store (c : Prop) [Decidable c] (a b : State) :
    (if c then a else b).store = if c then a.store else b.store := apply_ite State.store c a b
@[simp] theorem foldl_cue {α : Type} (f : State → α → State) (h : ∀ s a, (f s a).cue = s.cue) (l : List α)
    (s : State) : (l.foldl f s).cue = s.cue := foldl_keeps State.cue f h l s
@[simp] theorem ite_cue (c : Prop) [Decidable c] (a b : State) :
    (if c then a else b).cue = if c then a.cue else b.cue := apply_ite State.cue c a b
@[simp] theorem foldl_pdu {α : Type} (f : State → α → State) (h : ∀ s a, (f s a).pdu = s.pdu) (l : List α)
    (s : State) : (l.foldl f s).pdu = s.pdu := foldl_keeps State.pdu f h l s
@[simp] theorem ite_pdu (c : Prop) [Decidable c] (a b : State) :
    (if c then a else b).pdu = if c then a.pdu else b.pdu := apply_ite State.pdu c a b
@[simp] theorem foldl_pbc {α : Type} (f : State → α → State) (h : ∀ s a, (f s a).pbc = s.pbc) (l : List α)
    (s : State) : (l.foldl f s).pbc = s.pbc := foldl_keeps State.pbc f h l s
@[simp] theorem ite_pbc (c : Prop) [Decidable c] (a b : State) :
    (if c then a else b).pbc = if c then a.pbc else b.pbc := apply_ite State.pbc c a b
@[simp] theorem foldl_clu {α : Type} (f : State → α → State) (h : ∀ s a, (f s a).clu = s.clu) (l : List α)
    (s : State) : (l.foldl f s).clu = s.clu := foldl_keeps State.clu f h l s
@[simp] theorem ite_clu (c : Prop) [Decidable c] (a b : State) :
    (if c then a else b).clu = if c then a.clu else b.clu := apply_ite State.clu c a b
@[simp] theorem foldl_vu {α : Type} (f : State → α → State) (h : ∀ s a, (f s a).vu = s.vu) (l : List α)
    (s : State) : (l.foldl f s).vu = s.vu := foldl_keeps State.vu f h l s
@[simp] theorem ite_vu (c : Prop) [Decidable c] (a b : State) :
    (if c then a else b).vu = if c then a.vu else b.vu := apply_ite State.vu c a b
@[simp] theorem foldl_freeIdx {α : Type} (f : State → α → State) (h : ∀ s a, (f s a).freeIdx = s.freeIdx) (l : List α)
    (s : State) : (l.foldl f s).freeIdx = s.freeIdx := foldl_keeps State.freeIdx f h l s
@[simp] theorem ite_freeIdx (c : Prop) [Decidable c] (a b : State) :
    (if c then a else b).freeIdx = if c then a.freeIdx else b.freeIdx := apply_ite State.freeIdx c a b
@[simp] theorem foldl_pending {α : Type} (f : State → α → State) (h : ∀ s a, (f s a).pending = s.pending) (l : List α)
    (s : State) : (l.foldl f s).pending = s.pending := foldl_keeps State.pending f h l s
@[simp] theorem ite_pending (c : Prop) [Decidable c] (a b : State) :
    (if c then a else b).pending = if c then a.pending else b.pending := apply_ite State.pending c a b

/-- The responses waiting on a link. -/
def State.answers (s : State) (l : Link) : List Response := (s.lku.link l).responses

@[simp] theorem foldl_answers {α : Type} (f : State → α → State) (h : ∀ s a, (f s a).answers = s.answers)
    (l : List α) (s : State) : (l.foldl f s).answers = s.answers := foldl_keeps State.answers f h l s
@[simp] theorem ite_answers (c : Prop) [Decidable c] (a b : State) :
    (if c then a else b).answers = if c then a.answers else b.answers := apply_ite State.answers c a b

/-- The responses waiting on the Stage and Podium Links: a block's show reset may form one on the Rig Link
(R194). -/
def offRig (a : Link → List Response) (l : Link) : List Response := if l = .rig then [] else a l

theorem offRig_stage (a : Link → List Response) : offRig a .stage = a .stage := rfl
theorem offRig_podium (a : Link → List Response) : offRig a .podium = a .podium := rfl

@[simp] theorem offRig_ite (c : Prop) [Decidable c] (a b : Link → List Response) :
    offRig (if c then a else b) = if c then offRig a else offRig b := apply_ite offRig c a b
@[simp] theorem foldl_offRig {α : Type} (f : State → α → State)
    (h : ∀ s a, offRig (f s a).answers = offRig s.answers) (l : List α) (s : State) :
    offRig (l.foldl f s).answers = offRig s.answers := foldl_keeps (fun s => offRig s.answers) f h l s

@[simp] theorem State.onScu_answers (f : Scu → Scu) (s : State) : (s.onScu f).answers = s.answers := rfl
@[simp] theorem State.onTmu_answers (f : Tmu → Tmu) (s : State) : (s.onTmu f).answers = s.answers := rfl
@[simp] theorem State.onStore_answers (f : Store → Store) (s : State) : (s.onStore f).answers = s.answers := rfl
@[simp] theorem State.onCue_answers (f : CueEngine → CueEngine) (s : State) : (s.onCue f).answers = s.answers := rfl
@[simp] theorem State.onPdu_answers (f : Pdu → Pdu) (s : State) : (s.onPdu f).answers = s.answers := rfl
@[simp] theorem State.onPbc_answers (f : Pbc → Pbc) (s : State) : (s.onPbc f).answers = s.answers := rfl
@[simp] theorem State.onClu_answers (f : Clu → Clu) (s : State) : (s.onClu f).answers = s.answers := rfl
@[simp] theorem State.onVu_answers (f : Vu → Vu) (s : State) : (s.onVu f).answers = s.answers := rfl
@[simp] theorem State.nextFree_answers (s : State) : s.nextFree.answers = s.answers := rfl
@[simp] theorem State.onLane_answers (n : Nat) (f : Lane → Lane) (s : State) : (s.onLane n f).answers = s.answers := rfl
@[simp] theorem State.onFeed_answers (n : Nat) (f : Feed → Feed) (s : State) : (s.onFeed n f).answers = s.answers := rfl
@[simp] theorem State.onCam_answers (c : Podium) (f : Camera → Camera) (s : State) : (s.onCam c f).answers = s.answers := rfl
@[simp] theorem State.onQueue_answers (n : Nat) (f : List Entry → List Entry) (s : State) :
    (s.onQueue n f).answers = s.answers := rfl
@[simp] theorem State.onClosures_answers (n : Nat) (f : Closures → Closures) (s : State) :
    (s.onClosures n f).answers = s.answers := rfl
@[simp] theorem State.onStation_answers (n : Nat) (f : Station → Station) (s : State) :
    (s.onStation n f).answers = s.answers := rfl
@[simp] theorem State.onEntry_answers (n : Nat) (q : Count32) (f : Entry → Entry) (s : State) :
    (s.onEntry n q f).answers = s.answers := rfl
@[simp] theorem State.onCues_answers (f : CueEntry → CueEntry) (s : State) : (s.onCues f).answers = s.answers := rfl
@[simp] theorem State.onMark_answers (n : Nat) (f : CueEntry → CueEntry) (s : State) :
    (s.onMark n f).answers = s.answers := rfl
@[simp] theorem setShow_answers (v : ShowState) (s : State) : (setShow v s).answers = s.answers := rfl
@[simp] theorem setPosition_answers (p : Position) (s : State) : (setPosition p s).answers = s.answers := rfl
@[simp] theorem setPatch_answers (n l : Nat) (p : Option Nat) (s : State) :
    (setPatch n l p s).answers = s.answers := rfl
@[simp] theorem removeEntry_answers (e : Entry) (s : State) : (removeEntry e s).answers = s.answers := rfl

theorem LinkRecord.take_responses (n : Notice) (r : LinkRecord) : (r.take n).responses = r.responses := by
  unfold LinkRecord.take; split <;> [rfl; split] <;> [rfl; split] <;> rfl

theorem Lku.notify_responses (n : Notice) (k : Lku) (m l : Link) :
    ((k.notify n m).link l).responses = (k.link l).responses := by
  cases m <;> cases l <;> simp [Lku.notify, Lku.link, Lku.onLink, LinkRecord.take_responses]

@[simp] theorem raiseNotice_answers (b : NoticeBody) (s : State) : (raiseNotice b s).answers = s.answers := by
  funext l
  suffices h : ∀ (ls : List Link) (k : Lku),
      ((ls.foldl (Lku.notify ⟨b, s.now⟩) k).link l).responses = (k.link l).responses from h _ _
  intro ls
  induction ls with
  | nil => intro k; rfl
  | cons m ms ih => intro k; simp [ih, Lku.notify_responses]

@[simp] theorem raiseEvent_answers (c : Cond) (s : State) : (raiseEvent c s).answers = s.answers := by
  unfold raiseEvent
  rw [raiseNotice_answers]
  funext l; cases l <;> rfl

@[simp] theorem setCondition_answers (c : Cond) (v : Bool) (s : State) :
    (setCondition c v s).answers = s.answers := by
  unfold setCondition
  split
  · rfl
  · simp only [raiseNotice_answers]; funext l; cases l <;> rfl

@[simp] theorem raiseState_frame (o : Option Nat) (s : State) :
    (raiseState o s).now = s.now ∧ (raiseState o s).inReset = s.inReset ∧ (raiseState o s).scu = s.scu ∧
    (raiseState o s).tmu = s.tmu ∧ (raiseState o s).store = s.store ∧ (raiseState o s).cue = s.cue ∧
    (raiseState o s).pdu = s.pdu ∧ (raiseState o s).pbc = s.pbc ∧ (raiseState o s).clu = s.clu ∧
    (raiseState o s).vu = s.vu ∧ (raiseState o s).freeIdx = s.freeIdx ∧
    (raiseState o s).pending = s.pending ∧ (raiseState o s).answers = s.answers := by
  refine ⟨?_, ?_, ?_, ?_, ?_, ?_, ?_, ?_, ?_, ?_, ?_, ?_, ?_⟩ <;> simp [raiseState]
@[simp] theorem raiseStop_frame (e : StopEvent) (s : State) :
    (raiseStop e s).now = s.now ∧ (raiseStop e s).inReset = s.inReset ∧ (raiseStop e s).scu = s.scu ∧
    (raiseStop e s).tmu = s.tmu ∧ (raiseStop e s).store = s.store ∧ (raiseStop e s).cue = s.cue ∧
    (raiseStop e s).pdu = s.pdu ∧ (raiseStop e s).pbc = s.pbc ∧ (raiseStop e s).clu = s.clu ∧
    (raiseStop e s).vu = s.vu ∧ (raiseStop e s).freeIdx = s.freeIdx ∧ (raiseStop e s).pending = s.pending ∧
    (raiseStop e s).answers = s.answers := by
  refine ⟨?_, ?_, ?_, ?_, ?_, ?_, ?_, ?_, ?_, ?_, ?_, ?_, ?_⟩ <;> simp [raiseStop]
@[simp] theorem raiseTempo_frame (s : State) :
    (raiseTempo s).now = s.now ∧ (raiseTempo s).inReset = s.inReset ∧ (raiseTempo s).scu = s.scu ∧
    (raiseTempo s).tmu = s.tmu ∧ (raiseTempo s).store = s.store ∧ (raiseTempo s).cue = s.cue ∧
    (raiseTempo s).pdu = s.pdu ∧ (raiseTempo s).pbc = s.pbc ∧ (raiseTempo s).clu = s.clu ∧
    (raiseTempo s).vu = s.vu ∧ (raiseTempo s).freeIdx = s.freeIdx ∧ (raiseTempo s).pending = s.pending ∧
    (raiseTempo s).answers = s.answers := by
  refine ⟨?_, ?_, ?_, ?_, ?_, ?_, ?_, ?_, ?_, ?_, ?_, ?_, ?_⟩ <;> simp [raiseTempo]
@[simp] theorem raisePatch_frame (e : Entry) (o : PatchOutcome) (s : State) :
    (raisePatch e o s).now = s.now ∧ (raisePatch e o s).inReset = s.inReset ∧
    (raisePatch e o s).scu = s.scu ∧ (raisePatch e o s).tmu = s.tmu ∧ (raisePatch e o s).store = s.store ∧
    (raisePatch e o s).cue = s.cue ∧ (raisePatch e o s).pdu = s.pdu ∧ (raisePatch e o s).pbc = s.pbc ∧
    (raisePatch e o s).clu = s.clu ∧ (raisePatch e o s).vu = s.vu ∧ (raisePatch e o s).freeIdx = s.freeIdx ∧
    (raisePatch e o s).pending = s.pending ∧ (raisePatch e o s).answers = s.answers := by
  refine ⟨?_, ?_, ?_, ?_, ?_, ?_, ?_, ?_, ?_, ?_, ?_, ?_, ?_⟩ <;> simp [raisePatch]
@[simp] theorem raiseStation_frame (n : Nat) (r : StationReason) (s : State) :
    (raiseStation n r s).now = s.now ∧ (raiseStation n r s).inReset = s.inReset ∧
    (raiseStation n r s).scu = s.scu ∧ (raiseStation n r s).tmu = s.tmu ∧
    (raiseStation n r s).store = s.store ∧ (raiseStation n r s).cue = s.cue ∧
    (raiseStation n r s).pdu = s.pdu ∧ (raiseStation n r s).pbc = s.pbc ∧ (raiseStation n r s).clu = s.clu ∧
    (raiseStation n r s).vu = s.vu ∧ (raiseStation n r s).freeIdx = s.freeIdx ∧
    (raiseStation n r s).pending = s.pending ∧ (raiseStation n r s).answers = s.answers := by
  refine ⟨?_, ?_, ?_, ?_, ?_, ?_, ?_, ?_, ?_, ?_, ?_, ?_, ?_⟩ <;> simp [raiseStation]
@[simp] theorem setLamp_frame (v : Bool) (s : State) :
    (setLamp v s).now = s.now ∧ (setLamp v s).inReset = s.inReset ∧ (setLamp v s).tmu = s.tmu ∧
    (setLamp v s).store = s.store ∧ (setLamp v s).cue = s.cue ∧ (setLamp v s).pdu = s.pdu ∧
    (setLamp v s).pbc = s.pbc ∧ (setLamp v s).clu = s.clu ∧ (setLamp v s).vu = s.vu ∧
    (setLamp v s).freeIdx = s.freeIdx ∧ (setLamp v s).pending = s.pending ∧
    (setLamp v s).answers = s.answers := by
  refine ⟨?_, ?_, ?_, ?_, ?_, ?_, ?_, ?_, ?_, ?_, ?_, ?_⟩ <;> simp [setLamp]
@[simp] theorem handBeat_frame (g : GridBeat) (s : State) :
    (handBeat g s).now = s.now ∧ (handBeat g s).inReset = s.inReset ∧ (handBeat g s).scu = s.scu ∧
    (handBeat g s).tmu = s.tmu ∧ (handBeat g s).store = s.store ∧ (handBeat g s).pbc = s.pbc ∧
    (handBeat g s).freeIdx = s.freeIdx ∧ (handBeat g s).pending = s.pending ∧
    (handBeat g s).answers = s.answers := by
  refine ⟨?_, ?_, ?_, ?_, ?_, ?_, ?_, ?_, ?_⟩ <;> simp [handBeat]
@[simp] theorem handHold_frame (i : Nat) (o : Origin) (s : State) :
    (handHold i o s).now = s.now ∧ (handHold i o s).inReset = s.inReset ∧ (handHold i o s).scu = s.scu ∧
    (handHold i o s).store = s.store ∧ (handHold i o s).pbc = s.pbc ∧ (handHold i o s).freeIdx = s.freeIdx ∧
    (handHold i o s).pending = s.pending ∧ (handHold i o s).answers = s.answers := by
  refine ⟨?_, ?_, ?_, ?_, ?_, ?_, ?_, ?_⟩ <;> simp [handHold]
@[simp] theorem handReset_frame (s : State) :
    (handReset s).now = s.now ∧ (handReset s).inReset = s.inReset ∧ (handReset s).scu = s.scu ∧
    (handReset s).store = s.store ∧ (handReset s).pbc = s.pbc ∧ (handReset s).clu = s.clu ∧
    (handReset s).freeIdx = s.freeIdx ∧ (handReset s).pending = s.pending ∧
    (handReset s).answers = s.answers := by
  refine ⟨?_, ?_, ?_, ?_, ?_, ?_, ?_, ?_, ?_⟩ <;> simp [handReset]
@[simp] theorem armedIfResolved_frame (s : State) :
    (armedIfResolved s).now = s.now ∧ (armedIfResolved s).inReset = s.inReset ∧
    (armedIfResolved s).tmu = s.tmu ∧ (armedIfResolved s).store = s.store ∧
    (armedIfResolved s).cue = s.cue ∧ (armedIfResolved s).pdu = s.pdu ∧ (armedIfResolved s).pbc = s.pbc ∧
    (armedIfResolved s).clu = s.clu ∧ (armedIfResolved s).vu = s.vu ∧
    (armedIfResolved s).freeIdx = s.freeIdx ∧ (armedIfResolved s).pending = s.pending ∧
    (armedIfResolved s).answers = s.answers := by
  refine ⟨?_, ?_, ?_, ?_, ?_, ?_, ?_, ?_, ?_, ?_, ?_, ?_⟩ <;> simp [armedIfResolved]
@[simp] theorem resetAnswered_frame (s : State) :
    (resetAnswered s).now = s.now ∧ (resetAnswered s).inReset = s.inReset ∧ (resetAnswered s).scu = s.scu ∧
    (resetAnswered s).tmu = s.tmu ∧ (resetAnswered s).store = s.store ∧ (resetAnswered s).cue = s.cue ∧
    (resetAnswered s).pdu = s.pdu ∧ (resetAnswered s).pbc = s.pbc ∧ (resetAnswered s).clu = s.clu ∧
    (resetAnswered s).vu = s.vu ∧ (resetAnswered s).freeIdx = s.freeIdx ∧
    (resetAnswered s).pending = s.pending ∧ offRig (resetAnswered s).answers = offRig s.answers := by
  unfold resetAnswered
  split
  · exact ⟨rfl, rfl, rfl, rfl, rfl, rfl, rfl, rfl, rfl, rfl, rfl, rfl, by funext l; cases l <;> rfl⟩
  · simp

/-- With no RESET_SHOW still being taken, a block's show reset forms no response. -/
theorem resetAnswered_settled (s : State) (h : s.lku.resetOwed = false) : resetAnswered s = s := by
  simp [resetAnswered, h]

@[simp] theorem recomputeOffset_frame (n : Nat) (s : State) :
    (recomputeOffset n s).now = s.now ∧ (recomputeOffset n s).inReset = s.inReset ∧
    (recomputeOffset n s).scu = s.scu ∧ (recomputeOffset n s).tmu = s.tmu ∧
    (recomputeOffset n s).store = s.store ∧ (recomputeOffset n s).cue = s.cue ∧
    (recomputeOffset n s).pdu = s.pdu ∧ (recomputeOffset n s).pbc = s.pbc ∧
    (recomputeOffset n s).vu = s.vu ∧ (recomputeOffset n s).freeIdx = s.freeIdx ∧
    (recomputeOffset n s).pending = s.pending ∧ (recomputeOffset n s).answers = s.answers := by
  refine ⟨?_, ?_, ?_, ?_, ?_, ?_, ?_, ?_, ?_, ?_, ?_, ?_⟩ <;> simp [recomputeOffset]
@[simp] theorem handLatency_frame (n : Nat) (s : State) :
    (handLatency n s).now = s.now ∧ (handLatency n s).inReset = s.inReset ∧ (handLatency n s).scu = s.scu ∧
    (handLatency n s).tmu = s.tmu ∧ (handLatency n s).store = s.store ∧ (handLatency n s).cue = s.cue ∧
    (handLatency n s).pdu = s.pdu ∧ (handLatency n s).pbc = s.pbc ∧ (handLatency n s).vu = s.vu ∧
    (handLatency n s).freeIdx = s.freeIdx ∧ (handLatency n s).pending = s.pending ∧
    (handLatency n s).answers = s.answers := by
  refine ⟨?_, ?_, ?_, ?_, ?_, ?_, ?_, ?_, ?_, ?_, ?_, ?_⟩ <;> simp [handLatency]
@[simp] theorem scheduleLane_frame (g : GridBeat) (n : Nat) (s : State) :
    (scheduleLane g s n).now = s.now ∧ (scheduleLane g s n).inReset = s.inReset ∧
    (scheduleLane g s n).scu = s.scu ∧ (scheduleLane g s n).tmu = s.tmu ∧
    (scheduleLane g s n).store = s.store ∧ (scheduleLane g s n).cue = s.cue ∧
    (scheduleLane g s n).pdu = s.pdu ∧ (scheduleLane g s n).pbc = s.pbc ∧ (scheduleLane g s n).vu = s.vu ∧
    (scheduleLane g s n).freeIdx = s.freeIdx ∧ (scheduleLane g s n).pending = s.pending ∧
    (scheduleLane g s n).answers = s.answers := by
  refine ⟨?_, ?_, ?_, ?_, ?_, ?_, ?_, ?_, ?_, ?_, ?_, ?_⟩ <;> simp [scheduleLane]
@[simp] theorem takeClu_frame (h : HandOver) (s : State) :
    (takeClu s h).now = s.now ∧ (takeClu s h).inReset = s.inReset ∧ (takeClu s h).scu = s.scu ∧
    (takeClu s h).tmu = s.tmu ∧ (takeClu s h).store = s.store ∧ (takeClu s h).cue = s.cue ∧
    (takeClu s h).pdu = s.pdu ∧ (takeClu s h).pbc = s.pbc ∧ (takeClu s h).vu = s.vu ∧
    (takeClu s h).freeIdx = s.freeIdx ∧ (takeClu s h).pending = s.pending ∧
    (takeClu s h).answers = s.answers := by
  refine ⟨?_, ?_, ?_, ?_, ?_, ?_, ?_, ?_, ?_, ?_, ?_, ?_⟩ <;> first
  | (simp [takeClu]; done)
  | (simp only [takeClu]; (repeat' split) <;> simp)
@[simp] theorem drainClu_frame (s : State) :
    (drainClu s).now = s.now ∧ (drainClu s).inReset = s.inReset ∧ (drainClu s).scu = s.scu ∧
    (drainClu s).tmu = s.tmu ∧ (drainClu s).store = s.store ∧ (drainClu s).cue = s.cue ∧
    (drainClu s).pdu = s.pdu ∧ (drainClu s).pbc = s.pbc ∧ (drainClu s).vu = s.vu ∧
    (drainClu s).freeIdx = s.freeIdx ∧ (drainClu s).pending = s.pending ∧
    (drainClu s).answers = s.answers := by
  refine ⟨?_, ?_, ?_, ?_, ?_, ?_, ?_, ?_, ?_, ?_, ?_, ?_⟩ <;> simp [drainClu]
@[simp] theorem endOverrides_frame (s : State) :
    (endOverrides s).now = s.now ∧ (endOverrides s).inReset = s.inReset ∧ (endOverrides s).scu = s.scu ∧
    (endOverrides s).tmu = s.tmu ∧ (endOverrides s).store = s.store ∧ (endOverrides s).cue = s.cue ∧
    (endOverrides s).pdu = s.pdu ∧ (endOverrides s).pbc = s.pbc ∧ (endOverrides s).vu = s.vu ∧
    (endOverrides s).freeIdx = s.freeIdx ∧ (endOverrides s).pending = s.pending ∧
    (endOverrides s).answers = s.answers := by
  refine ⟨?_, ?_, ?_, ?_, ?_, ?_, ?_, ?_, ?_, ?_, ?_, ?_⟩ <;> simp [endOverrides]
@[simp] theorem laneAction_frame (m : Mask) (b : Bool) (p : Option Nat) (s : State) :
    (laneAction m b p s).now = s.now ∧ (laneAction m b p s).inReset = s.inReset ∧
    (laneAction m b p s).scu = s.scu ∧ (laneAction m b p s).tmu = s.tmu ∧
    (laneAction m b p s).store = s.store ∧ (laneAction m b p s).cue = s.cue ∧
    (laneAction m b p s).pdu = s.pdu ∧ (laneAction m b p s).pbc = s.pbc ∧ (laneAction m b p s).vu = s.vu ∧
    (laneAction m b p s).freeIdx = s.freeIdx ∧ (laneAction m b p s).pending = s.pending ∧
    (laneAction m b p s).answers = s.answers := by
  unfold laneAction
  exact ⟨foldl_keeps State.now _ (fun s a => by dsimp only; (repeat' split) <;> simp) _ _,
    foldl_keeps State.inReset _ (fun s a => by dsimp only; (repeat' split) <;> simp) _ _,
    foldl_keeps State.scu _ (fun s a => by dsimp only; (repeat' split) <;> simp) _ _,
    foldl_keeps State.tmu _ (fun s a => by dsimp only; (repeat' split) <;> simp) _ _,
    foldl_keeps State.store _ (fun s a => by dsimp only; (repeat' split) <;> simp) _ _,
    foldl_keeps State.cue _ (fun s a => by dsimp only; (repeat' split) <;> simp) _ _,
    foldl_keeps State.pdu _ (fun s a => by dsimp only; (repeat' split) <;> simp) _ _,
    foldl_keeps State.pbc _ (fun s a => by dsimp only; (repeat' split) <;> simp) _ _,
    foldl_keeps State.vu _ (fun s a => by dsimp only; (repeat' split) <;> simp) _ _,
    foldl_keeps State.freeIdx _ (fun s a => by dsimp only; (repeat' split) <;> simp) _ _,
    foldl_keeps State.pending _ (fun s a => by dsimp only; (repeat' split) <;> simp) _ _,
    foldl_keeps State.answers _ (fun s a => by dsimp only; (repeat' split) <;> simp) _ _⟩
@[simp] theorem beginFrame_frame (n : Nat) (p : FramePicture) (s : State) :
    (beginFrame n p s).now = s.now ∧ (beginFrame n p s).inReset = s.inReset ∧
    (beginFrame n p s).scu = s.scu ∧ (beginFrame n p s).tmu = s.tmu ∧ (beginFrame n p s).store = s.store ∧
    (beginFrame n p s).cue = s.cue ∧ (beginFrame n p s).pdu = s.pdu ∧ (beginFrame n p s).pbc = s.pbc ∧
    (beginFrame n p s).clu = s.clu ∧ (beginFrame n p s).freeIdx = s.freeIdx ∧
    (beginFrame n p s).pending = s.pending ∧ (beginFrame n p s).answers = s.answers := by
  refine ⟨?_, ?_, ?_, ?_, ?_, ?_, ?_, ?_, ?_, ?_, ?_, ?_⟩ <;> simp [beginFrame]
@[simp] theorem beginLive_frame (n : Nat) (c : Podium) (s : State) :
    (beginLive n c s).now = s.now ∧ (beginLive n c s).inReset = s.inReset ∧ (beginLive n c s).scu = s.scu ∧
    (beginLive n c s).tmu = s.tmu ∧ (beginLive n c s).store = s.store ∧ (beginLive n c s).cue = s.cue ∧
    (beginLive n c s).pdu = s.pdu ∧ (beginLive n c s).pbc = s.pbc ∧ (beginLive n c s).clu = s.clu ∧
    (beginLive n c s).freeIdx = s.freeIdx ∧ (beginLive n c s).pending = s.pending ∧
    (beginLive n c s).answers = s.answers := by
  refine ⟨?_, ?_, ?_, ?_, ?_, ?_, ?_, ?_, ?_, ?_, ?_, ?_⟩ <;> simp [beginLive]
@[simp] theorem switchFeed_frame (n : Nat) (s : State) :
    (switchFeed n s).now = s.now ∧ (switchFeed n s).inReset = s.inReset ∧ (switchFeed n s).scu = s.scu ∧
    (switchFeed n s).tmu = s.tmu ∧ (switchFeed n s).store = s.store ∧ (switchFeed n s).cue = s.cue ∧
    (switchFeed n s).pdu = s.pdu ∧ (switchFeed n s).pbc = s.pbc ∧ (switchFeed n s).clu = s.clu ∧
    (switchFeed n s).freeIdx = s.freeIdx ∧ (switchFeed n s).pending = s.pending ∧
    (switchFeed n s).answers = s.answers := by
  refine ⟨?_, ?_, ?_, ?_, ?_, ?_, ?_, ?_, ?_, ?_, ?_, ?_⟩ <;> first
  | (simp [switchFeed]; done)
  | (simp only [switchFeed]; (repeat' split) <;> simp)
@[simp] theorem feedOnFrameStart_frame (c : Podium) (n : Nat) (s : State) :
    (feedOnFrameStart c s n).now = s.now ∧ (feedOnFrameStart c s n).inReset = s.inReset ∧
    (feedOnFrameStart c s n).scu = s.scu ∧ (feedOnFrameStart c s n).tmu = s.tmu ∧
    (feedOnFrameStart c s n).store = s.store ∧ (feedOnFrameStart c s n).cue = s.cue ∧
    (feedOnFrameStart c s n).pdu = s.pdu ∧ (feedOnFrameStart c s n).pbc = s.pbc ∧
    (feedOnFrameStart c s n).clu = s.clu ∧ (feedOnFrameStart c s n).freeIdx = s.freeIdx ∧
    (feedOnFrameStart c s n).pending = s.pending ∧ (feedOnFrameStart c s n).answers = s.answers := by
  refine ⟨?_, ?_, ?_, ?_, ?_, ?_, ?_, ?_, ?_, ?_, ?_, ?_⟩ <;> first
  | (simp [feedOnFrameStart]; done)
  | (simp only [feedOnFrameStart]; (repeat' split) <;> simp)
@[simp] theorem freeRunFrame_frame (n : Nat) (s : State) :
    (freeRunFrame n s).now = s.now ∧ (freeRunFrame n s).inReset = s.inReset ∧
    (freeRunFrame n s).scu = s.scu ∧ (freeRunFrame n s).tmu = s.tmu ∧ (freeRunFrame n s).store = s.store ∧
    (freeRunFrame n s).cue = s.cue ∧ (freeRunFrame n s).pdu = s.pdu ∧ (freeRunFrame n s).pbc = s.pbc ∧
    (freeRunFrame n s).clu = s.clu ∧ (freeRunFrame n s).freeIdx = s.freeIdx ∧
    (freeRunFrame n s).pending = s.pending ∧ (freeRunFrame n s).answers = s.answers := by
  refine ⟨?_, ?_, ?_, ?_, ?_, ?_, ?_, ?_, ?_, ?_, ?_, ?_⟩ <;> first
  | (simp [freeRunFrame]; done)
  | (simp only [freeRunFrame]; (repeat' split) <;> simp)
@[simp] theorem feedAction_frame (m : Mask) (o : Option FeedSource) (v : Option Mask) (s : State) :
    (feedAction m o v s).now = s.now ∧ (feedAction m o v s).inReset = s.inReset ∧
    (feedAction m o v s).scu = s.scu ∧ (feedAction m o v s).tmu = s.tmu ∧
    (feedAction m o v s).store = s.store ∧ (feedAction m o v s).cue = s.cue ∧
    (feedAction m o v s).pdu = s.pdu ∧ (feedAction m o v s).pbc = s.pbc ∧ (feedAction m o v s).clu = s.clu ∧
    (feedAction m o v s).freeIdx = s.freeIdx ∧ (feedAction m o v s).pending = s.pending ∧
    (feedAction m o v s).answers = s.answers := by
  unfold feedAction
  exact ⟨foldl_keeps State.now _ (fun s a => by dsimp only; (repeat' split) <;> simp) _ _,
    foldl_keeps State.inReset _ (fun s a => by dsimp only; (repeat' split) <;> simp) _ _,
    foldl_keeps State.scu _ (fun s a => by dsimp only; (repeat' split) <;> simp) _ _,
    foldl_keeps State.tmu _ (fun s a => by dsimp only; (repeat' split) <;> simp) _ _,
    foldl_keeps State.store _ (fun s a => by dsimp only; (repeat' split) <;> simp) _ _,
    foldl_keeps State.cue _ (fun s a => by dsimp only; (repeat' split) <;> simp) _ _,
    foldl_keeps State.pdu _ (fun s a => by dsimp only; (repeat' split) <;> simp) _ _,
    foldl_keeps State.pbc _ (fun s a => by dsimp only; (repeat' split) <;> simp) _ _,
    foldl_keeps State.clu _ (fun s a => by dsimp only; (repeat' split) <;> simp) _ _,
    foldl_keeps State.freeIdx _ (fun s a => by dsimp only; (repeat' split) <;> simp) _ _,
    foldl_keeps State.pending _ (fun s a => by dsimp only; (repeat' split) <;> simp) _ _,
    foldl_keeps State.answers _ (fun s a => by dsimp only; (repeat' split) <;> simp) _ _⟩
@[simp] theorem rerouteFeeds_frame (s : State) :
    (rerouteFeeds s).now = s.now ∧ (rerouteFeeds s).inReset = s.inReset ∧ (rerouteFeeds s).scu = s.scu ∧
    (rerouteFeeds s).tmu = s.tmu ∧ (rerouteFeeds s).store = s.store ∧ (rerouteFeeds s).cue = s.cue ∧
    (rerouteFeeds s).pdu = s.pdu ∧ (rerouteFeeds s).pbc = s.pbc ∧ (rerouteFeeds s).clu = s.clu ∧
    (rerouteFeeds s).freeIdx = s.freeIdx ∧ (rerouteFeeds s).pending = s.pending ∧
    (rerouteFeeds s).answers = s.answers := by
  refine ⟨?_, ?_, ?_, ?_, ?_, ?_, ?_, ?_, ?_, ?_, ?_, ?_⟩ <;> simp [rerouteFeeds]
@[simp] theorem judgeLatency_frame (n : Nat) (s : State) :
    (judgeLatency n s).now = s.now ∧ (judgeLatency n s).inReset = s.inReset ∧
    (judgeLatency n s).scu = s.scu ∧ (judgeLatency n s).tmu = s.tmu ∧ (judgeLatency n s).store = s.store ∧
    (judgeLatency n s).cue = s.cue ∧ (judgeLatency n s).pdu = s.pdu ∧ (judgeLatency n s).pbc = s.pbc ∧
    (judgeLatency n s).clu = s.clu ∧ (judgeLatency n s).freeIdx = s.freeIdx ∧
    (judgeLatency n s).pending = s.pending ∧ (judgeLatency n s).answers = s.answers := by
  refine ⟨?_, ?_, ?_, ?_, ?_, ?_, ?_, ?_, ?_, ?_, ?_, ?_⟩ <;> simp [judgeLatency]
@[simp] theorem applySample_frame (n x : Nat) (s : State) :
    (applySample n x s).now = s.now ∧ (applySample n x s).inReset = s.inReset ∧
    (applySample n x s).scu = s.scu ∧ (applySample n x s).tmu = s.tmu ∧
    (applySample n x s).store = s.store ∧ (applySample n x s).cue = s.cue ∧
    (applySample n x s).pdu = s.pdu ∧ (applySample n x s).pbc = s.pbc ∧
    (applySample n x s).freeIdx = s.freeIdx ∧ (applySample n x s).pending = s.pending ∧
    (applySample n x s).answers = s.answers := by
  refine ⟨?_, ?_, ?_, ?_, ?_, ?_, ?_, ?_, ?_, ?_, ?_⟩ <;> simp [applySample]
@[simp] theorem panicCondition_frame (s : State) :
    (panicCondition s).now = s.now ∧ (panicCondition s).inReset = s.inReset ∧
    (panicCondition s).scu = s.scu ∧ (panicCondition s).tmu = s.tmu ∧ (panicCondition s).store = s.store ∧
    (panicCondition s).cue = s.cue ∧ (panicCondition s).pdu = s.pdu ∧ (panicCondition s).pbc = s.pbc ∧
    (panicCondition s).clu = s.clu ∧ (panicCondition s).vu = s.vu ∧ (panicCondition s).freeIdx = s.freeIdx ∧
    (panicCondition s).pending = s.pending ∧ (panicCondition s).answers = s.answers := by
  refine ⟨?_, ?_, ?_, ?_, ?_, ?_, ?_, ?_, ?_, ?_, ?_, ?_, ?_⟩ <;> simp [panicCondition]
@[simp] theorem takeVu_frame (h : HandOver) (s : State) :
    (takeVu s h).now = s.now ∧ (takeVu s h).inReset = s.inReset ∧ (takeVu s h).scu = s.scu ∧
    (takeVu s h).tmu = s.tmu ∧ (takeVu s h).store = s.store ∧ (takeVu s h).cue = s.cue ∧
    (takeVu s h).pdu = s.pdu ∧ (takeVu s h).pbc = s.pbc ∧ (takeVu s h).clu = s.clu ∧
    (takeVu s h).freeIdx = s.freeIdx ∧ (takeVu s h).pending = s.pending ∧
    offRig (takeVu s h).answers = offRig s.answers := by
  refine ⟨?_, ?_, ?_, ?_, ?_, ?_, ?_, ?_, ?_, ?_, ?_, ?_⟩ <;> first
  | (simp [takeVu]; done)
  | (simp only [takeVu]; (repeat' split) <;> simp)
@[simp] theorem drainVu_frame (s : State) :
    (drainVu s).now = s.now ∧ (drainVu s).inReset = s.inReset ∧ (drainVu s).scu = s.scu ∧
    (drainVu s).tmu = s.tmu ∧ (drainVu s).store = s.store ∧ (drainVu s).cue = s.cue ∧
    (drainVu s).pdu = s.pdu ∧ (drainVu s).pbc = s.pbc ∧ (drainVu s).clu = s.clu ∧
    (drainVu s).freeIdx = s.freeIdx ∧ (drainVu s).pending = s.pending ∧
    offRig (drainVu s).answers = offRig s.answers := by
  refine ⟨?_, ?_, ?_, ?_, ?_, ?_, ?_, ?_, ?_, ?_, ?_, ?_⟩ <;> simp [drainVu]
@[simp] theorem endBanner_frame (s : State) :
    (endBanner s).now = s.now ∧ (endBanner s).inReset = s.inReset ∧ (endBanner s).scu = s.scu ∧
    (endBanner s).tmu = s.tmu ∧ (endBanner s).store = s.store ∧ (endBanner s).cue = s.cue ∧
    (endBanner s).pdu = s.pdu ∧ (endBanner s).pbc = s.pbc ∧ (endBanner s).clu = s.clu ∧
    (endBanner s).freeIdx = s.freeIdx ∧ (endBanner s).pending = s.pending ∧
    offRig (endBanner s).answers = offRig s.answers := by
  refine ⟨?_, ?_, ?_, ?_, ?_, ?_, ?_, ?_, ?_, ?_, ?_, ?_⟩ <;> simp [endBanner]
@[simp] theorem setPeriod_frame (x : Nat) (s : State) :
    (setPeriod x s).now = s.now ∧ (setPeriod x s).inReset = s.inReset ∧ (setPeriod x s).scu = s.scu ∧
    (setPeriod x s).store = s.store ∧ (setPeriod x s).cue = s.cue ∧ (setPeriod x s).pdu = s.pdu ∧
    (setPeriod x s).pbc = s.pbc ∧ (setPeriod x s).clu = s.clu ∧ (setPeriod x s).vu = s.vu ∧
    (setPeriod x s).freeIdx = s.freeIdx ∧ (setPeriod x s).pending = s.pending ∧
    (setPeriod x s).answers = s.answers := by
  refine ⟨?_, ?_, ?_, ?_, ?_, ?_, ?_, ?_, ?_, ?_, ?_, ?_⟩ <;> simp [setPeriod]
@[simp] theorem setTempo_frame (x : TempoState) (s : State) :
    (setTempo x s).now = s.now ∧ (setTempo x s).inReset = s.inReset ∧ (setTempo x s).scu = s.scu ∧
    (setTempo x s).store = s.store ∧ (setTempo x s).cue = s.cue ∧ (setTempo x s).pdu = s.pdu ∧
    (setTempo x s).pbc = s.pbc ∧ (setTempo x s).clu = s.clu ∧ (setTempo x s).vu = s.vu ∧
    (setTempo x s).freeIdx = s.freeIdx ∧ (setTempo x s).pending = s.pending ∧
    (setTempo x s).answers = s.answers := by
  refine ⟨?_, ?_, ?_, ?_, ?_, ?_, ?_, ?_, ?_, ?_, ?_, ?_⟩ <;> simp [setTempo]
@[simp] theorem moveNext_frame (d : Int) (s : State) :
    (moveNext d s).now = s.now ∧ (moveNext d s).inReset = s.inReset ∧ (moveNext d s).scu = s.scu ∧
    (moveNext d s).store = s.store ∧ (moveNext d s).cue = s.cue ∧ (moveNext d s).pdu = s.pdu ∧
    (moveNext d s).pbc = s.pbc ∧ (moveNext d s).clu = s.clu ∧ (moveNext d s).vu = s.vu ∧
    (moveNext d s).freeIdx = s.freeIdx ∧ (moveNext d s).pending = s.pending ∧
    (moveNext d s).answers = s.answers := by
  refine ⟨?_, ?_, ?_, ?_, ?_, ?_, ?_, ?_, ?_, ?_, ?_, ?_⟩ <;> simp [moveNext]
@[simp] theorem openBeats_frame (s : State) :
    (openBeats s).now = s.now ∧ (openBeats s).inReset = s.inReset ∧ (openBeats s).scu = s.scu ∧
    (openBeats s).store = s.store ∧ (openBeats s).cue = s.cue ∧ (openBeats s).pdu = s.pdu ∧
    (openBeats s).pbc = s.pbc ∧ (openBeats s).clu = s.clu ∧ (openBeats s).vu = s.vu ∧
    (openBeats s).freeIdx = s.freeIdx ∧ (openBeats s).pending = s.pending ∧
    (openBeats s).answers = s.answers := by
  refine ⟨?_, ?_, ?_, ?_, ?_, ?_, ?_, ?_, ?_, ?_, ?_, ?_⟩ <;> simp [openBeats]
@[simp] theorem handoverEffect_frame (p : Podium) (s : State) :
    (handoverEffect p s).now = s.now ∧ (handoverEffect p s).inReset = s.inReset ∧
    (handoverEffect p s).scu = s.scu ∧ (handoverEffect p s).store = s.store ∧
    (handoverEffect p s).cue = s.cue ∧ (handoverEffect p s).pdu = s.pdu ∧ (handoverEffect p s).pbc = s.pbc ∧
    (handoverEffect p s).clu = s.clu ∧ (handoverEffect p s).freeIdx = s.freeIdx ∧
    (handoverEffect p s).pending = s.pending ∧ (handoverEffect p s).answers = s.answers := by
  refine ⟨?_, ?_, ?_, ?_, ?_, ?_, ?_, ?_, ?_, ?_, ?_⟩ <;> simp [handoverEffect]
@[simp] theorem pendingHandover_frame (s : State) :
    (pendingHandover s).now = s.now ∧ (pendingHandover s).inReset = s.inReset ∧
    (pendingHandover s).scu = s.scu ∧ (pendingHandover s).store = s.store ∧
    (pendingHandover s).cue = s.cue ∧ (pendingHandover s).pdu = s.pdu ∧ (pendingHandover s).pbc = s.pbc ∧
    (pendingHandover s).clu = s.clu ∧ (pendingHandover s).freeIdx = s.freeIdx ∧
    (pendingHandover s).pending = s.pending ∧ (pendingHandover s).answers = s.answers := by
  refine ⟨?_, ?_, ?_, ?_, ?_, ?_, ?_, ?_, ?_, ?_, ?_⟩ <;> first
  | (simp [pendingHandover]; done)
  | (simp only [pendingHandover]; (repeat' split) <;> simp)
@[simp] theorem enterIdle_frame (s : State) :
    (enterIdle s).now = s.now ∧ (enterIdle s).inReset = s.inReset ∧ (enterIdle s).scu = s.scu ∧
    (enterIdle s).store = s.store ∧ (enterIdle s).cue = s.cue ∧ (enterIdle s).pdu = s.pdu ∧
    (enterIdle s).pbc = s.pbc ∧ (enterIdle s).clu = s.clu ∧ (enterIdle s).freeIdx = s.freeIdx ∧
    (enterIdle s).pending = s.pending ∧ (enterIdle s).answers = s.answers := by
  refine ⟨?_, ?_, ?_, ?_, ?_, ?_, ?_, ?_, ?_, ?_, ?_⟩ <;> simp [enterIdle]
@[simp] theorem takeTmu_frame (h : HandOver) (s : State) :
    (takeTmu s h).now = s.now ∧ (takeTmu s h).inReset = s.inReset ∧ (takeTmu s h).scu = s.scu ∧
    (takeTmu s h).store = s.store ∧ (takeTmu s h).cue = s.cue ∧ (takeTmu s h).pdu = s.pdu ∧
    (takeTmu s h).pbc = s.pbc ∧ (takeTmu s h).clu = s.clu ∧ (takeTmu s h).freeIdx = s.freeIdx ∧
    (takeTmu s h).pending = s.pending ∧ offRig (takeTmu s h).answers = offRig s.answers := by
  refine ⟨?_, ?_, ?_, ?_, ?_, ?_, ?_, ?_, ?_, ?_, ?_⟩ <;> first
  | (simp [takeTmu]; done)
  | (simp only [takeTmu]; (repeat' split) <;> simp)
@[simp] theorem drainTmu_frame (s : State) :
    (drainTmu s).now = s.now ∧ (drainTmu s).inReset = s.inReset ∧ (drainTmu s).scu = s.scu ∧
    (drainTmu s).store = s.store ∧ (drainTmu s).cue = s.cue ∧ (drainTmu s).pdu = s.pdu ∧
    (drainTmu s).pbc = s.pbc ∧ (drainTmu s).clu = s.clu ∧ (drainTmu s).freeIdx = s.freeIdx ∧
    (drainTmu s).pending = s.pending ∧ offRig (drainTmu s).answers = offRig s.answers := by
  refine ⟨?_, ?_, ?_, ?_, ?_, ?_, ?_, ?_, ?_, ?_, ?_⟩ <;> simp [drainTmu]
@[simp] theorem takeMode_frame (x : Option Nat) (s : State) :
    (takeMode x s).now = s.now ∧ (takeMode x s).inReset = s.inReset ∧ (takeMode x s).scu = s.scu ∧
    (takeMode x s).store = s.store ∧ (takeMode x s).cue = s.cue ∧ (takeMode x s).pdu = s.pdu ∧
    (takeMode x s).pbc = s.pbc ∧ (takeMode x s).clu = s.clu ∧ (takeMode x s).vu = s.vu ∧
    (takeMode x s).freeIdx = s.freeIdx ∧ (takeMode x s).pending = s.pending ∧
    (takeMode x s).answers = s.answers := by
  refine ⟨?_, ?_, ?_, ?_, ?_, ?_, ?_, ?_, ?_, ?_, ?_, ?_⟩ <;> first
  | (simp [takeMode]; done)
  | (simp only [takeMode]; (repeat' split) <;> simp)
@[simp] theorem enterSegment_frame (x : Segment) (s : State) :
    (enterSegment x s).now = s.now ∧ (enterSegment x s).inReset = s.inReset ∧
    (enterSegment x s).scu = s.scu ∧ (enterSegment x s).store = s.store ∧ (enterSegment x s).cue = s.cue ∧
    (enterSegment x s).pdu = s.pdu ∧ (enterSegment x s).pbc = s.pbc ∧ (enterSegment x s).clu = s.clu ∧
    (enterSegment x s).freeIdx = s.freeIdx ∧ (enterSegment x s).pending = s.pending ∧
    offRig (enterSegment x s).answers = offRig s.answers := by
  refine ⟨?_, ?_, ?_, ?_, ?_, ?_, ?_, ?_, ?_, ?_, ?_⟩ <;> simp [enterSegment]
@[simp] theorem startGrid_frame (a b : Nat) (x : Segment) (i : TempoState) (s : State) :
    (startGrid a b x i s).now = s.now ∧ (startGrid a b x i s).inReset = s.inReset ∧
    (startGrid a b x i s).scu = s.scu ∧ (startGrid a b x i s).store = s.store ∧
    (startGrid a b x i s).cue = s.cue ∧ (startGrid a b x i s).pdu = s.pdu ∧
    (startGrid a b x i s).pbc = s.pbc ∧ (startGrid a b x i s).clu = s.clu ∧
    (startGrid a b x i s).freeIdx = s.freeIdx ∧ (startGrid a b x i s).pending = s.pending ∧
    offRig (startGrid a b x i s).answers = offRig s.answers := by
  refine ⟨?_, ?_, ?_, ?_, ?_, ?_, ?_, ?_, ?_, ?_, ?_⟩ <;> simp [startGrid]
@[simp] theorem tempoFollow_frame (s : State) :
    (tempoFollow s).now = s.now ∧ (tempoFollow s).inReset = s.inReset ∧ (tempoFollow s).scu = s.scu ∧
    (tempoFollow s).store = s.store ∧ (tempoFollow s).cue = s.cue ∧ (tempoFollow s).pdu = s.pdu ∧
    (tempoFollow s).pbc = s.pbc ∧ (tempoFollow s).clu = s.clu ∧ (tempoFollow s).vu = s.vu ∧
    (tempoFollow s).freeIdx = s.freeIdx ∧ (tempoFollow s).pending = s.pending ∧
    (tempoFollow s).answers = s.answers := by
  refine ⟨?_, ?_, ?_, ?_, ?_, ?_, ?_, ?_, ?_, ?_, ?_, ?_⟩ <;> first
  | (simp [tempoFollow]; done)
  | (simp only [tempoFollow]; (repeat' split) <;> simp)
@[simp] theorem tempoFixed_frame (x : Nat) (s : State) :
    (tempoFixed x s).now = s.now ∧ (tempoFixed x s).inReset = s.inReset ∧ (tempoFixed x s).scu = s.scu ∧
    (tempoFixed x s).store = s.store ∧ (tempoFixed x s).cue = s.cue ∧ (tempoFixed x s).pdu = s.pdu ∧
    (tempoFixed x s).pbc = s.pbc ∧ (tempoFixed x s).clu = s.clu ∧ (tempoFixed x s).vu = s.vu ∧
    (tempoFixed x s).freeIdx = s.freeIdx ∧ (tempoFixed x s).pending = s.pending ∧
    (tempoFixed x s).answers = s.answers := by
  refine ⟨?_, ?_, ?_, ?_, ?_, ?_, ?_, ?_, ?_, ?_, ?_, ?_⟩ <;> simp [tempoFixed]
@[simp] theorem tempoLink_frame (x : Nat) (s : State) :
    (tempoLink x s).now = s.now ∧ (tempoLink x s).inReset = s.inReset ∧ (tempoLink x s).scu = s.scu ∧
    (tempoLink x s).store = s.store ∧ (tempoLink x s).cue = s.cue ∧ (tempoLink x s).pdu = s.pdu ∧
    (tempoLink x s).pbc = s.pbc ∧ (tempoLink x s).clu = s.clu ∧ (tempoLink x s).vu = s.vu ∧
    (tempoLink x s).freeIdx = s.freeIdx ∧ (tempoLink x s).pending = s.pending ∧
    (tempoLink x s).answers = s.answers := by
  refine ⟨?_, ?_, ?_, ?_, ?_, ?_, ?_, ?_, ?_, ?_, ?_, ?_⟩ <;> simp [tempoLink]
@[simp] theorem tempoAction_frame (x : Option Nat) (s : State) :
    (tempoAction x s).now = s.now ∧ (tempoAction x s).inReset = s.inReset ∧ (tempoAction x s).scu = s.scu ∧
    (tempoAction x s).store = s.store ∧ (tempoAction x s).cue = s.cue ∧ (tempoAction x s).pdu = s.pdu ∧
    (tempoAction x s).pbc = s.pbc ∧ (tempoAction x s).clu = s.clu ∧ (tempoAction x s).vu = s.vu ∧
    (tempoAction x s).freeIdx = s.freeIdx ∧ (tempoAction x s).pending = s.pending ∧
    (tempoAction x s).answers = s.answers := by
  refine ⟨?_, ?_, ?_, ?_, ?_, ?_, ?_, ?_, ?_, ?_, ?_, ?_⟩ <;> first
  | (simp [tempoAction]; done)
  | (simp only [tempoAction]; (repeat' split) <;> simp)
@[simp] theorem applyLinked_frame (s : State) :
    (applyLinked s).now = s.now ∧ (applyLinked s).inReset = s.inReset ∧ (applyLinked s).scu = s.scu ∧
    (applyLinked s).store = s.store ∧ (applyLinked s).cue = s.cue ∧ (applyLinked s).pdu = s.pdu ∧
    (applyLinked s).pbc = s.pbc ∧ (applyLinked s).clu = s.clu ∧ (applyLinked s).vu = s.vu ∧
    (applyLinked s).freeIdx = s.freeIdx ∧ (applyLinked s).pending = s.pending ∧
    (applyLinked s).answers = s.answers := by
  refine ⟨?_, ?_, ?_, ?_, ?_, ?_, ?_, ?_, ?_, ?_, ?_, ?_⟩ <;> first
  | (simp [applyLinked]; done)
  | (simp only [applyLinked]; (repeat' split) <;> simp)
@[simp] theorem emitBeat_frame (x : Nat) (s : State) :
    (emitBeat x s).now = s.now ∧ (emitBeat x s).inReset = s.inReset ∧ (emitBeat x s).scu = s.scu ∧
    (emitBeat x s).store = s.store ∧ (emitBeat x s).cue = s.cue ∧ (emitBeat x s).pdu = s.pdu ∧
    (emitBeat x s).pbc = s.pbc ∧ (emitBeat x s).clu = s.clu ∧ (emitBeat x s).vu = s.vu ∧
    (emitBeat x s).freeIdx = s.freeIdx ∧ (emitBeat x s).pending = s.pending ∧
    (emitBeat x s).answers = s.answers := by
  refine ⟨?_, ?_, ?_, ?_, ?_, ?_, ?_, ?_, ?_, ?_, ?_, ?_⟩ <;> simp [emitBeat]
@[simp] theorem logEdge_frame (p : Podium) (e : LogEntry) (s : State) :
    (logEdge p e s).now = s.now ∧ (logEdge p e s).inReset = s.inReset ∧ (logEdge p e s).scu = s.scu ∧
    (logEdge p e s).store = s.store ∧ (logEdge p e s).cue = s.cue ∧ (logEdge p e s).pdu = s.pdu ∧
    (logEdge p e s).pbc = s.pbc ∧ (logEdge p e s).clu = s.clu ∧ (logEdge p e s).vu = s.vu ∧
    (logEdge p e s).freeIdx = s.freeIdx ∧ (logEdge p e s).pending = s.pending ∧
    (logEdge p e s).answers = s.answers := by
  refine ⟨?_, ?_, ?_, ?_, ?_, ?_, ?_, ?_, ?_, ?_, ?_, ?_⟩ <;> simp [logEdge]
@[simp] theorem filterStep_frame (i : Nat) (s : State) :
    (filterStep i s).now = s.now ∧ (filterStep i s).inReset = s.inReset ∧ (filterStep i s).scu = s.scu ∧
    (filterStep i s).store = s.store ∧ (filterStep i s).cue = s.cue ∧ (filterStep i s).pdu = s.pdu ∧
    (filterStep i s).pbc = s.pbc ∧ (filterStep i s).clu = s.clu ∧ (filterStep i s).vu = s.vu ∧
    (filterStep i s).freeIdx = s.freeIdx ∧ (filterStep i s).pending = s.pending ∧
    (filterStep i s).answers = s.answers := by
  refine ⟨?_, ?_, ?_, ?_, ?_, ?_, ?_, ?_, ?_, ?_, ?_, ?_⟩ <;> simp [filterStep]
@[simp] theorem outlierStep_frame (i : Nat) (s : State) :
    (outlierStep i s).now = s.now ∧ (outlierStep i s).inReset = s.inReset ∧ (outlierStep i s).scu = s.scu ∧
    (outlierStep i s).store = s.store ∧ (outlierStep i s).cue = s.cue ∧ (outlierStep i s).pdu = s.pdu ∧
    (outlierStep i s).pbc = s.pbc ∧ (outlierStep i s).clu = s.clu ∧ (outlierStep i s).vu = s.vu ∧
    (outlierStep i s).freeIdx = s.freeIdx ∧ (outlierStep i s).pending = s.pending ∧
    (outlierStep i s).answers = s.answers := by
  refine ⟨?_, ?_, ?_, ?_, ?_, ?_, ?_, ?_, ?_, ?_, ?_, ?_⟩ <;> first
  | (simp [outlierStep]; done)
  | (simp only [outlierStep]; (repeat' split) <;> simp)
@[simp] theorem phaseStep_frame (b : Bool) (x c o : Nat) (s : State) :
    (phaseStep b x c o s).now = s.now ∧ (phaseStep b x c o s).inReset = s.inReset ∧
    (phaseStep b x c o s).scu = s.scu ∧ (phaseStep b x c o s).store = s.store ∧
    (phaseStep b x c o s).cue = s.cue ∧ (phaseStep b x c o s).pdu = s.pdu ∧
    (phaseStep b x c o s).pbc = s.pbc ∧ (phaseStep b x c o s).clu = s.clu ∧
    (phaseStep b x c o s).vu = s.vu ∧ (phaseStep b x c o s).freeIdx = s.freeIdx ∧
    (phaseStep b x c o s).pending = s.pending ∧ (phaseStep b x c o s).answers = s.answers := by
  refine ⟨?_, ?_, ?_, ?_, ?_, ?_, ?_, ?_, ?_, ?_, ?_, ?_⟩ <;> simp [phaseStep]
@[simp] theorem periodStep_frame (d : Disposition) (i a : Option Nat) (s : State) :
    (periodStep d i a s).now = s.now ∧ (periodStep d i a s).inReset = s.inReset ∧
    (periodStep d i a s).scu = s.scu ∧ (periodStep d i a s).store = s.store ∧
    (periodStep d i a s).cue = s.cue ∧ (periodStep d i a s).pdu = s.pdu ∧ (periodStep d i a s).pbc = s.pbc ∧
    (periodStep d i a s).clu = s.clu ∧ (periodStep d i a s).vu = s.vu ∧
    (periodStep d i a s).freeIdx = s.freeIdx ∧ (periodStep d i a s).pending = s.pending ∧
    (periodStep d i a s).answers = s.answers := by
  refine ⟨?_, ?_, ?_, ?_, ?_, ?_, ?_, ?_, ?_, ?_, ?_, ?_⟩ <;> first
  | (simp [periodStep]; done)
  | (simp only [periodStep]; (repeat' split) <;> simp)
@[simp] theorem reacquireStep_frame (s : State) :
    (reacquireStep s).now = s.now ∧ (reacquireStep s).inReset = s.inReset ∧ (reacquireStep s).scu = s.scu ∧
    (reacquireStep s).store = s.store ∧ (reacquireStep s).cue = s.cue ∧ (reacquireStep s).pdu = s.pdu ∧
    (reacquireStep s).pbc = s.pbc ∧ (reacquireStep s).clu = s.clu ∧ (reacquireStep s).vu = s.vu ∧
    (reacquireStep s).freeIdx = s.freeIdx ∧ (reacquireStep s).pending = s.pending ∧
    (reacquireStep s).answers = s.answers := by
  refine ⟨?_, ?_, ?_, ?_, ?_, ?_, ?_, ?_, ?_, ?_, ?_, ?_⟩ <;> first
  | (simp [reacquireStep]; done)
  | (simp only [reacquireStep]; (repeat' split) <;> simp)
@[simp] theorem takeMatched_frame (p : Podium) (b : Bool) (x c : Nat) (s : State) :
    (takeMatched p b x c s).now = s.now ∧ (takeMatched p b x c s).inReset = s.inReset ∧
    (takeMatched p b x c s).scu = s.scu ∧ (takeMatched p b x c s).store = s.store ∧
    (takeMatched p b x c s).cue = s.cue ∧ (takeMatched p b x c s).pdu = s.pdu ∧
    (takeMatched p b x c s).pbc = s.pbc ∧ (takeMatched p b x c s).clu = s.clu ∧
    (takeMatched p b x c s).vu = s.vu ∧ (takeMatched p b x c s).freeIdx = s.freeIdx ∧
    (takeMatched p b x c s).pending = s.pending ∧ (takeMatched p b x c s).answers = s.answers := by
  refine ⟨?_, ?_, ?_, ?_, ?_, ?_, ?_, ?_, ?_, ?_, ?_, ?_⟩ <;> first
  | (simp [takeMatched]; done)
  | (simp only [takeMatched]; (repeat' split) <;> simp)
@[simp] theorem capture_frame (p : Podium) (c : Nat) (s : State) :
    (capture p c s).now = s.now ∧ (capture p c s).inReset = s.inReset ∧ (capture p c s).scu = s.scu ∧
    (capture p c s).store = s.store ∧ (capture p c s).cue = s.cue ∧ (capture p c s).pdu = s.pdu ∧
    (capture p c s).pbc = s.pbc ∧ (capture p c s).clu = s.clu ∧ (capture p c s).vu = s.vu ∧
    (capture p c s).freeIdx = s.freeIdx ∧ (capture p c s).pending = s.pending ∧
    (capture p c s).answers = s.answers := by
  refine ⟨?_, ?_, ?_, ?_, ?_, ?_, ?_, ?_, ?_, ?_, ?_, ?_⟩ <;> first
  | (simp [capture]; done)
  | (simp only [capture]; (repeat' split) <;> simp)
@[simp] theorem takeEdge_frame (p : Podium) (s : State) :
    (takeEdge p s).now = s.now ∧ (takeEdge p s).inReset = s.inReset ∧ (takeEdge p s).scu = s.scu ∧
    (takeEdge p s).store = s.store ∧ (takeEdge p s).cue = s.cue ∧ (takeEdge p s).pdu = s.pdu ∧
    (takeEdge p s).pbc = s.pbc ∧ (takeEdge p s).clu = s.clu ∧ (takeEdge p s).vu = s.vu ∧
    (takeEdge p s).freeIdx = s.freeIdx ∧ (takeEdge p s).pending = s.pending ∧
    (takeEdge p s).answers = s.answers := by
  refine ⟨?_, ?_, ?_, ?_, ?_, ?_, ?_, ?_, ?_, ?_, ?_, ?_⟩ <;> first
  | (simp [takeEdge]; done)
  | (simp only [takeEdge]; (repeat' split) <;> simp)
@[simp] theorem beatEdgeStep_frame (p : Podium) (s : State) :
    (beatEdgeStep p s).now = s.now ∧ (beatEdgeStep p s).inReset = s.inReset ∧
    (beatEdgeStep p s).scu = s.scu ∧ (beatEdgeStep p s).store = s.store ∧ (beatEdgeStep p s).cue = s.cue ∧
    (beatEdgeStep p s).pdu = s.pdu ∧ (beatEdgeStep p s).pbc = s.pbc ∧ (beatEdgeStep p s).clu = s.clu ∧
    (beatEdgeStep p s).vu = s.vu ∧ (beatEdgeStep p s).freeIdx = s.freeIdx ∧
    (beatEdgeStep p s).pending = s.pending ∧ (beatEdgeStep p s).answers = s.answers := by
  refine ⟨?_, ?_, ?_, ?_, ?_, ?_, ?_, ?_, ?_, ?_, ?_, ?_⟩ <;> simp [beatEdgeStep]
@[simp] theorem beatMissed_frame (s : State) :
    (beatMissed s).now = s.now ∧ (beatMissed s).inReset = s.inReset ∧ (beatMissed s).scu = s.scu ∧
    (beatMissed s).store = s.store ∧ (beatMissed s).cue = s.cue ∧ (beatMissed s).pdu = s.pdu ∧
    (beatMissed s).pbc = s.pbc ∧ (beatMissed s).clu = s.clu ∧ (beatMissed s).vu = s.vu ∧
    (beatMissed s).freeIdx = s.freeIdx ∧ (beatMissed s).pending = s.pending ∧
    (beatMissed s).answers = s.answers := by
  refine ⟨?_, ?_, ?_, ?_, ?_, ?_, ?_, ?_, ?_, ?_, ?_, ?_⟩ <;> simp [beatMissed]
@[simp] theorem missIfOpen_frame (b : EmittedBeat) (s : State) :
    (missIfOpen b s).now = s.now ∧ (missIfOpen b s).inReset = s.inReset ∧ (missIfOpen b s).scu = s.scu ∧
    (missIfOpen b s).store = s.store ∧ (missIfOpen b s).cue = s.cue ∧ (missIfOpen b s).pdu = s.pdu ∧
    (missIfOpen b s).pbc = s.pbc ∧ (missIfOpen b s).clu = s.clu ∧ (missIfOpen b s).vu = s.vu ∧
    (missIfOpen b s).freeIdx = s.freeIdx ∧ (missIfOpen b s).pending = s.pending ∧
    (missIfOpen b s).answers = s.answers := by
  unfold missIfOpen
  split <;> simp
@[simp] theorem takeMiss_frame (s : State) :
    (takeMiss s).now = s.now ∧ (takeMiss s).inReset = s.inReset ∧ (takeMiss s).scu = s.scu ∧
    (takeMiss s).store = s.store ∧ (takeMiss s).cue = s.cue ∧ (takeMiss s).pdu = s.pdu ∧
    (takeMiss s).pbc = s.pbc ∧ (takeMiss s).clu = s.clu ∧ (takeMiss s).vu = s.vu ∧
    (takeMiss s).freeIdx = s.freeIdx ∧ (takeMiss s).pending = s.pending ∧
    (takeMiss s).answers = s.answers := by
  refine ⟨?_, ?_, ?_, ?_, ?_, ?_, ?_, ?_, ?_, ?_, ?_, ?_⟩ <;> first
  | (simp [takeMiss]; done)
  | (simp only [takeMiss]; (repeat' split) <;> simp)
@[simp] theorem decOutstanding_frame (s : State) :
    (decOutstanding s).now = s.now ∧ (decOutstanding s).inReset = s.inReset ∧
    (decOutstanding s).tmu = s.tmu ∧ (decOutstanding s).store = s.store ∧ (decOutstanding s).cue = s.cue ∧
    (decOutstanding s).pbc = s.pbc ∧ (decOutstanding s).clu = s.clu ∧ (decOutstanding s).vu = s.vu ∧
    (decOutstanding s).freeIdx = s.freeIdx ∧ (decOutstanding s).pending = s.pending ∧
    (decOutstanding s).answers = s.answers := by
  refine ⟨?_, ?_, ?_, ?_, ?_, ?_, ?_, ?_, ?_, ?_, ?_⟩ <;> first
  | (simp [decOutstanding]; done)
  | (simp only [decOutstanding]; (repeat' split) <;> simp)
@[simp] theorem resolutionClosed_frame (e : Entry) (s : State) :
    (resolutionClosed e s).now = s.now ∧ (resolutionClosed e s).inReset = s.inReset ∧
    (resolutionClosed e s).tmu = s.tmu ∧ (resolutionClosed e s).store = s.store ∧
    (resolutionClosed e s).cue = s.cue ∧ (resolutionClosed e s).pbc = s.pbc ∧
    (resolutionClosed e s).clu = s.clu ∧ (resolutionClosed e s).vu = s.vu ∧
    (resolutionClosed e s).freeIdx = s.freeIdx ∧ (resolutionClosed e s).pending = s.pending ∧
    (resolutionClosed e s).answers = s.answers := by
  refine ⟨?_, ?_, ?_, ?_, ?_, ?_, ?_, ?_, ?_, ?_, ?_⟩ <;> simp [resolutionClosed]
@[simp] theorem closeDiscarded_frame (e : Entry) (s : State) :
    (closeDiscarded s e).now = s.now ∧ (closeDiscarded s e).inReset = s.inReset ∧
    (closeDiscarded s e).tmu = s.tmu ∧ (closeDiscarded s e).store = s.store ∧
    (closeDiscarded s e).cue = s.cue ∧ (closeDiscarded s e).pbc = s.pbc ∧ (closeDiscarded s e).clu = s.clu ∧
    (closeDiscarded s e).vu = s.vu ∧ (closeDiscarded s e).freeIdx = s.freeIdx ∧
    (closeDiscarded s e).pending = s.pending ∧ (closeDiscarded s e).answers = s.answers := by
  refine ⟨?_, ?_, ?_, ?_, ?_, ?_, ?_, ?_, ?_, ?_, ?_⟩ <;> simp [closeDiscarded]
@[simp] theorem discardQueue_frame (n : Nat) (s : State) :
    (discardQueue n s).now = s.now ∧ (discardQueue n s).inReset = s.inReset ∧
    (discardQueue n s).tmu = s.tmu ∧ (discardQueue n s).store = s.store ∧ (discardQueue n s).cue = s.cue ∧
    (discardQueue n s).pbc = s.pbc ∧ (discardQueue n s).clu = s.clu ∧ (discardQueue n s).vu = s.vu ∧
    (discardQueue n s).freeIdx = s.freeIdx ∧ (discardQueue n s).pending = s.pending ∧
    (discardQueue n s).answers = s.answers := by
  refine ⟨?_, ?_, ?_, ?_, ?_, ?_, ?_, ?_, ?_, ?_, ?_⟩ <;> simp [discardQueue]
@[simp] theorem stationCutCondition_frame (s : State) :
    (stationCutCondition s).now = s.now ∧ (stationCutCondition s).inReset = s.inReset ∧
    (stationCutCondition s).scu = s.scu ∧ (stationCutCondition s).tmu = s.tmu ∧
    (stationCutCondition s).store = s.store ∧ (stationCutCondition s).cue = s.cue ∧
    (stationCutCondition s).pdu = s.pdu ∧ (stationCutCondition s).pbc = s.pbc ∧
    (stationCutCondition s).clu = s.clu ∧ (stationCutCondition s).vu = s.vu ∧
    (stationCutCondition s).freeIdx = s.freeIdx ∧ (stationCutCondition s).pending = s.pending ∧
    (stationCutCondition s).answers = s.answers := by
  refine ⟨?_, ?_, ?_, ?_, ?_, ?_, ?_, ?_, ?_, ?_, ?_, ?_, ?_⟩ <;> simp [stationCutCondition]
@[simp] theorem enterCut_frame (n : Nat) (s : State) :
    (enterCut n s).now = s.now ∧ (enterCut n s).inReset = s.inReset ∧ (enterCut n s).tmu = s.tmu ∧
    (enterCut n s).store = s.store ∧ (enterCut n s).cue = s.cue ∧ (enterCut n s).clu = s.clu ∧
    (enterCut n s).vu = s.vu ∧ (enterCut n s).freeIdx = s.freeIdx ∧ (enterCut n s).pending = s.pending ∧
    (enterCut n s).answers = s.answers := by
  refine ⟨?_, ?_, ?_, ?_, ?_, ?_, ?_, ?_, ?_, ?_⟩ <;> simp [enterCut]
@[simp] theorem stationSuccess_frame (n : Nat) (s : State) :
    (stationSuccess n s).now = s.now ∧ (stationSuccess n s).inReset = s.inReset ∧
    (stationSuccess n s).scu = s.scu ∧ (stationSuccess n s).tmu = s.tmu ∧
    (stationSuccess n s).store = s.store ∧ (stationSuccess n s).cue = s.cue ∧
    (stationSuccess n s).pdu = s.pdu ∧ (stationSuccess n s).clu = s.clu ∧ (stationSuccess n s).vu = s.vu ∧
    (stationSuccess n s).freeIdx = s.freeIdx ∧ (stationSuccess n s).pending = s.pending ∧
    (stationSuccess n s).answers = s.answers := by
  refine ⟨?_, ?_, ?_, ?_, ?_, ?_, ?_, ?_, ?_, ?_, ?_, ?_⟩ <;> first
  | (simp [stationSuccess]; done)
  | (simp only [stationSuccess]; (repeat' split) <;> simp)
@[simp] theorem stationFailure_frame (n : Nat) (s : State) :
    (stationFailure n s).now = s.now ∧ (stationFailure n s).inReset = s.inReset ∧
    (stationFailure n s).tmu = s.tmu ∧ (stationFailure n s).store = s.store ∧
    (stationFailure n s).cue = s.cue ∧ (stationFailure n s).clu = s.clu ∧ (stationFailure n s).vu = s.vu ∧
    (stationFailure n s).freeIdx = s.freeIdx ∧ (stationFailure n s).pending = s.pending ∧
    (stationFailure n s).answers = s.answers := by
  refine ⟨?_, ?_, ?_, ?_, ?_, ?_, ?_, ?_, ?_, ?_⟩ <;> first
  | (simp [stationFailure]; done)
  | (simp only [stationFailure]; (repeat' split) <;> simp)
@[simp] theorem closeFailed_frame (e : Entry) (s : State) :
    (closeFailed e s).now = s.now ∧ (closeFailed e s).inReset = s.inReset ∧ (closeFailed e s).tmu = s.tmu ∧
    (closeFailed e s).store = s.store ∧ (closeFailed e s).cue = s.cue ∧ (closeFailed e s).clu = s.clu ∧
    (closeFailed e s).vu = s.vu ∧ (closeFailed e s).freeIdx = s.freeIdx ∧
    (closeFailed e s).pending = s.pending ∧ (closeFailed e s).answers = s.answers := by
  refine ⟨?_, ?_, ?_, ?_, ?_, ?_, ?_, ?_, ?_, ?_⟩ <;> simp [closeFailed]
@[simp] theorem closeApplied_frame (e : Entry) (s : State) :
    (closeApplied e s).now = s.now ∧ (closeApplied e s).inReset = s.inReset ∧
    (closeApplied e s).tmu = s.tmu ∧ (closeApplied e s).store = s.store ∧ (closeApplied e s).cue = s.cue ∧
    (closeApplied e s).clu = s.clu ∧ (closeApplied e s).vu = s.vu ∧ (closeApplied e s).freeIdx = s.freeIdx ∧
    (closeApplied e s).pending = s.pending ∧ (closeApplied e s).answers = s.answers := by
  refine ⟨?_, ?_, ?_, ?_, ?_, ?_, ?_, ?_, ?_, ?_⟩ <;> simp [closeApplied]
@[simp] theorem resolutionCreated_frame (o : EntryOrigin) (s : State) :
    (resolutionCreated o s).now = s.now ∧ (resolutionCreated o s).inReset = s.inReset ∧
    (resolutionCreated o s).scu = s.scu ∧ (resolutionCreated o s).tmu = s.tmu ∧
    (resolutionCreated o s).store = s.store ∧ (resolutionCreated o s).cue = s.cue ∧
    (resolutionCreated o s).pbc = s.pbc ∧ (resolutionCreated o s).clu = s.clu ∧
    (resolutionCreated o s).vu = s.vu ∧ (resolutionCreated o s).freeIdx = s.freeIdx ∧
    (resolutionCreated o s).pending = s.pending ∧ (resolutionCreated o s).answers = s.answers := by
  refine ⟨?_, ?_, ?_, ?_, ?_, ?_, ?_, ?_, ?_, ?_, ?_, ?_⟩ <;> simp [resolutionCreated]
@[simp] theorem refuseChange_frame (c : Change) (s : State) :
    (refuseChange c s).now = s.now ∧ (refuseChange c s).inReset = s.inReset ∧
    (refuseChange c s).scu = s.scu ∧ (refuseChange c s).tmu = s.tmu ∧ (refuseChange c s).store = s.store ∧
    (refuseChange c s).cue = s.cue ∧ (refuseChange c s).pbc = s.pbc ∧ (refuseChange c s).clu = s.clu ∧
    (refuseChange c s).vu = s.vu ∧ (refuseChange c s).freeIdx = s.freeIdx ∧
    (refuseChange c s).pending = s.pending ∧ (refuseChange c s).answers = s.answers := by
  refine ⟨?_, ?_, ?_, ?_, ?_, ?_, ?_, ?_, ?_, ?_, ?_, ?_⟩ <;> simp [refuseChange]
@[simp] theorem supersede_frame (a b : Entry) (s : State) :
    (supersede a b s).now = s.now ∧ (supersede a b s).inReset = s.inReset ∧ (supersede a b s).tmu = s.tmu ∧
    (supersede a b s).store = s.store ∧ (supersede a b s).cue = s.cue ∧ (supersede a b s).pbc = s.pbc ∧
    (supersede a b s).clu = s.clu ∧ (supersede a b s).vu = s.vu ∧ (supersede a b s).freeIdx = s.freeIdx ∧
    (supersede a b s).pending = s.pending ∧ (supersede a b s).answers = s.answers := by
  refine ⟨?_, ?_, ?_, ?_, ?_, ?_, ?_, ?_, ?_, ?_, ?_⟩ <;> simp [supersede]
@[simp] theorem createEntry_frame (c : Change) (s : State) :
    (createEntry c s).now = s.now ∧ (createEntry c s).inReset = s.inReset ∧ (createEntry c s).tmu = s.tmu ∧
    (createEntry c s).store = s.store ∧ (createEntry c s).cue = s.cue ∧ (createEntry c s).pbc = s.pbc ∧
    (createEntry c s).clu = s.clu ∧ (createEntry c s).vu = s.vu ∧ (createEntry c s).freeIdx = s.freeIdx ∧
    (createEntry c s).pending = s.pending ∧ (createEntry c s).answers = s.answers := by
  refine ⟨?_, ?_, ?_, ?_, ?_, ?_, ?_, ?_, ?_, ?_, ?_⟩ <;> first
  | (simp [createEntry]; done)
  | (simp only [createEntry]; (repeat' split) <;> simp)
@[simp] theorem recomputeLands_frame (g : GridBeat) (s : State) :
    (recomputeLands g s).now = s.now ∧ (recomputeLands g s).inReset = s.inReset ∧
    (recomputeLands g s).scu = s.scu ∧ (recomputeLands g s).tmu = s.tmu ∧
    (recomputeLands g s).store = s.store ∧ (recomputeLands g s).cue = s.cue ∧
    (recomputeLands g s).pbc = s.pbc ∧ (recomputeLands g s).clu = s.clu ∧ (recomputeLands g s).vu = s.vu ∧
    (recomputeLands g s).pending = s.pending ∧ (recomputeLands g s).answers = s.answers := by
  refine ⟨?_, ?_, ?_, ?_, ?_, ?_, ?_, ?_, ?_, ?_, ?_⟩ <;> simp [recomputeLands]
@[simp] theorem holdQueue_frame (n : Nat) (s : State) :
    (holdQueue s n).now = s.now ∧ (holdQueue s n).inReset = s.inReset ∧ (holdQueue s n).tmu = s.tmu ∧
    (holdQueue s n).store = s.store ∧ (holdQueue s n).cue = s.cue ∧ (holdQueue s n).pbc = s.pbc ∧
    (holdQueue s n).clu = s.clu ∧ (holdQueue s n).vu = s.vu ∧ (holdQueue s n).freeIdx = s.freeIdx ∧
    (holdQueue s n).pending = s.pending ∧ (holdQueue s n).answers = s.answers := by
  refine ⟨?_, ?_, ?_, ?_, ?_, ?_, ?_, ?_, ?_, ?_, ?_⟩ <;> simp [holdQueue]
@[simp] theorem takePdu_frame (h : HandOver) (s : State) :
    (takePdu s h).now = s.now ∧ (takePdu s h).inReset = s.inReset ∧ (takePdu s h).tmu = s.tmu ∧
    (takePdu s h).store = s.store ∧ (takePdu s h).cue = s.cue ∧ (takePdu s h).pbc = s.pbc ∧
    (takePdu s h).clu = s.clu ∧ (takePdu s h).vu = s.vu ∧ (takePdu s h).pending = s.pending ∧
    offRig (takePdu s h).answers = offRig s.answers := by
  refine ⟨?_, ?_, ?_, ?_, ?_, ?_, ?_, ?_, ?_, ?_⟩ <;> first
  | (simp [takePdu]; done)
  | (simp only [takePdu]; (repeat' split) <;> simp)
@[simp] theorem drainPdu_frame (s : State) :
    (drainPdu s).now = s.now ∧ (drainPdu s).inReset = s.inReset ∧ (drainPdu s).tmu = s.tmu ∧
    (drainPdu s).store = s.store ∧ (drainPdu s).cue = s.cue ∧ (drainPdu s).pbc = s.pbc ∧
    (drainPdu s).clu = s.clu ∧ (drainPdu s).vu = s.vu ∧ (drainPdu s).pending = s.pending ∧
    offRig (drainPdu s).answers = offRig s.answers := by
  refine ⟨?_, ?_, ?_, ?_, ?_, ?_, ?_, ?_, ?_, ?_⟩ <;> simp [drainPdu]
@[simp] theorem markSent_frame (e : Entry) (s : State) :
    (markSent e s).now = s.now ∧ (markSent e s).inReset = s.inReset ∧ (markSent e s).scu = s.scu ∧
    (markSent e s).tmu = s.tmu ∧ (markSent e s).store = s.store ∧ (markSent e s).cue = s.cue ∧
    (markSent e s).pbc = s.pbc ∧ (markSent e s).clu = s.clu ∧ (markSent e s).vu = s.vu ∧
    (markSent e s).freeIdx = s.freeIdx ∧ (markSent e s).pending = s.pending ∧
    (markSent e s).answers = s.answers := by
  refine ⟨?_, ?_, ?_, ?_, ?_, ?_, ?_, ?_, ?_, ?_, ?_, ?_⟩ <;> simp [markSent]
@[simp] theorem applyAcked_frame (x : Exchange) (s : State) :
    (applyAcked x s).now = s.now ∧ (applyAcked x s).inReset = s.inReset ∧ (applyAcked x s).scu = s.scu ∧
    (applyAcked x s).tmu = s.tmu ∧ (applyAcked x s).store = s.store ∧ (applyAcked x s).cue = s.cue ∧
    (applyAcked x s).clu = s.clu ∧ (applyAcked x s).vu = s.vu ∧ (applyAcked x s).freeIdx = s.freeIdx ∧
    (applyAcked x s).pending = s.pending ∧ (applyAcked x s).answers = s.answers := by
  refine ⟨?_, ?_, ?_, ?_, ?_, ?_, ?_, ?_, ?_, ?_, ?_⟩ <;> first
  | (simp [applyAcked]; done)
  | (simp only [applyAcked]; (repeat' split) <;> simp)
@[simp] theorem applyUnanswered_frame (x : Exchange) (s : State) :
    (applyUnanswered x s).now = s.now ∧ (applyUnanswered x s).inReset = s.inReset ∧
    (applyUnanswered x s).tmu = s.tmu ∧ (applyUnanswered x s).store = s.store ∧
    (applyUnanswered x s).cue = s.cue ∧ (applyUnanswered x s).clu = s.clu ∧
    (applyUnanswered x s).vu = s.vu ∧ (applyUnanswered x s).freeIdx = s.freeIdx ∧
    (applyUnanswered x s).pending = s.pending ∧ (applyUnanswered x s).answers = s.answers := by
  refine ⟨?_, ?_, ?_, ?_, ?_, ?_, ?_, ?_, ?_, ?_⟩ <;> first
  | (simp [applyUnanswered]; done)
  | (simp only [applyUnanswered]; (repeat' split) <;> simp)
@[simp] theorem cancelAcked_frame (x : Exchange) (s : State) :
    (cancelAcked x s).now = s.now ∧ (cancelAcked x s).inReset = s.inReset ∧ (cancelAcked x s).tmu = s.tmu ∧
    (cancelAcked x s).store = s.store ∧ (cancelAcked x s).cue = s.cue ∧ (cancelAcked x s).pbc = s.pbc ∧
    (cancelAcked x s).clu = s.clu ∧ (cancelAcked x s).vu = s.vu ∧ (cancelAcked x s).freeIdx = s.freeIdx ∧
    (cancelAcked x s).pending = s.pending ∧ (cancelAcked x s).answers = s.answers := by
  refine ⟨?_, ?_, ?_, ?_, ?_, ?_, ?_, ?_, ?_, ?_, ?_⟩ <;> first
  | (simp [cancelAcked]; done)
  | (simp only [cancelAcked]; (repeat' split) <;> simp)
@[simp] theorem cancelUnanswered_frame (x : Exchange) (s : State) :
    (cancelUnanswered x s).now = s.now ∧ (cancelUnanswered x s).inReset = s.inReset ∧
    (cancelUnanswered x s).scu = s.scu ∧ (cancelUnanswered x s).tmu = s.tmu ∧
    (cancelUnanswered x s).store = s.store ∧ (cancelUnanswered x s).cue = s.cue ∧
    (cancelUnanswered x s).pbc = s.pbc ∧ (cancelUnanswered x s).clu = s.clu ∧
    (cancelUnanswered x s).vu = s.vu ∧ (cancelUnanswered x s).freeIdx = s.freeIdx ∧
    (cancelUnanswered x s).pending = s.pending ∧ (cancelUnanswered x s).answers = s.answers := by
  refine ⟨?_, ?_, ?_, ?_, ?_, ?_, ?_, ?_, ?_, ?_, ?_, ?_⟩ <;> first
  | (simp [cancelUnanswered]; done)
  | (simp only [cancelUnanswered]; (repeat' split) <;> simp)
@[simp] theorem rejoinQueue_frame (n : Nat) (s : State) :
    (rejoinQueue n s).now = s.now ∧ (rejoinQueue n s).inReset = s.inReset ∧ (rejoinQueue n s).tmu = s.tmu ∧
    (rejoinQueue n s).store = s.store ∧ (rejoinQueue n s).cue = s.cue ∧ (rejoinQueue n s).pbc = s.pbc ∧
    (rejoinQueue n s).clu = s.clu ∧ (rejoinQueue n s).vu = s.vu ∧ (rejoinQueue n s).freeIdx = s.freeIdx ∧
    (rejoinQueue n s).pending = s.pending ∧ (rejoinQueue n s).answers = s.answers := by
  refine ⟨?_, ?_, ?_, ?_, ?_, ?_, ?_, ?_, ?_, ?_, ?_⟩ <;> simp [rejoinQueue]
@[simp] theorem enterJoining_frame (n : Nat) (x : Option Nat) (r : StationReason) (s : State) :
    (enterJoining n x r s).now = s.now ∧ (enterJoining n x r s).inReset = s.inReset ∧
    (enterJoining n x r s).scu = s.scu ∧ (enterJoining n x r s).tmu = s.tmu ∧
    (enterJoining n x r s).store = s.store ∧ (enterJoining n x r s).cue = s.cue ∧
    (enterJoining n x r s).pdu = s.pdu ∧ (enterJoining n x r s).clu = s.clu ∧
    (enterJoining n x r s).vu = s.vu ∧ (enterJoining n x r s).freeIdx = s.freeIdx ∧
    (enterJoining n x r s).pending = s.pending ∧ (enterJoining n x r s).answers = s.answers := by
  refine ⟨?_, ?_, ?_, ?_, ?_, ?_, ?_, ?_, ?_, ?_, ?_, ?_⟩ <;> simp [enterJoining]
@[simp] theorem busError_frame (s : State) :
    (busError s).now = s.now ∧ (busError s).inReset = s.inReset ∧ (busError s).scu = s.scu ∧
    (busError s).tmu = s.tmu ∧ (busError s).store = s.store ∧ (busError s).cue = s.cue ∧
    (busError s).pdu = s.pdu ∧ (busError s).clu = s.clu ∧ (busError s).vu = s.vu ∧
    (busError s).freeIdx = s.freeIdx ∧ (busError s).pending = s.pending ∧
    (busError s).answers = s.answers := by
  refine ⟨?_, ?_, ?_, ?_, ?_, ?_, ?_, ?_, ?_, ?_, ?_, ?_⟩ <;> simp [busError]
@[simp] theorem tallyReply_frame (n m : Nat) (s : State) :
    (tallyReply n m s).now = s.now ∧ (tallyReply n m s).inReset = s.inReset ∧
    (tallyReply n m s).scu = s.scu ∧ (tallyReply n m s).tmu = s.tmu ∧ (tallyReply n m s).store = s.store ∧
    (tallyReply n m s).cue = s.cue ∧ (tallyReply n m s).pdu = s.pdu ∧ (tallyReply n m s).clu = s.clu ∧
    (tallyReply n m s).vu = s.vu ∧ (tallyReply n m s).freeIdx = s.freeIdx ∧
    (tallyReply n m s).pending = s.pending ∧ (tallyReply n m s).answers = s.answers := by
  refine ⟨?_, ?_, ?_, ?_, ?_, ?_, ?_, ?_, ?_, ?_, ?_, ?_⟩ <;> simp [tallyReply]
@[simp] theorem tallyWon_frame (n m : Nat) (s : State) :
    (tallyWon n m s).now = s.now ∧ (tallyWon n m s).inReset = s.inReset ∧ (tallyWon n m s).scu = s.scu ∧
    (tallyWon n m s).tmu = s.tmu ∧ (tallyWon n m s).store = s.store ∧ (tallyWon n m s).cue = s.cue ∧
    (tallyWon n m s).pdu = s.pdu ∧ (tallyWon n m s).clu = s.clu ∧ (tallyWon n m s).vu = s.vu ∧
    (tallyWon n m s).freeIdx = s.freeIdx ∧ (tallyWon n m s).pending = s.pending ∧
    (tallyWon n m s).answers = s.answers := by
  refine ⟨?_, ?_, ?_, ?_, ?_, ?_, ?_, ?_, ?_, ?_, ?_, ?_⟩ <;> simp [tallyWon]
@[simp] theorem sendFrame_frame (c : Candidate) (s : State) :
    (sendFrame c s).now = s.now ∧ (sendFrame c s).inReset = s.inReset ∧ (sendFrame c s).scu = s.scu ∧
    (sendFrame c s).tmu = s.tmu ∧ (sendFrame c s).store = s.store ∧ (sendFrame c s).cue = s.cue ∧
    (sendFrame c s).clu = s.clu ∧ (sendFrame c s).vu = s.vu ∧ (sendFrame c s).freeIdx = s.freeIdx ∧
    (sendFrame c s).pending = s.pending ∧ (sendFrame c s).answers = s.answers := by
  refine ⟨?_, ?_, ?_, ?_, ?_, ?_, ?_, ?_, ?_, ?_, ?_⟩ <;> first
  | (simp [sendFrame]; done)
  | (simp only [sendFrame]; (repeat' split) <;> simp)
@[simp] theorem holdBus_frame (r : List Nat) (s : State) :
    (holdBus r s).now = s.now ∧ (holdBus r s).inReset = s.inReset ∧ (holdBus r s).scu = s.scu ∧
    (holdBus r s).tmu = s.tmu ∧ (holdBus r s).store = s.store ∧ (holdBus r s).cue = s.cue ∧
    (holdBus r s).pdu = s.pdu ∧ (holdBus r s).clu = s.clu ∧ (holdBus r s).vu = s.vu ∧
    (holdBus r s).freeIdx = s.freeIdx ∧ (holdBus r s).pending = s.pending ∧ (holdBus r s).lku = s.lku ∧
    (holdBus r s).answers = s.answers :=
  ⟨rfl, rfl, rfl, rfl, rfl, rfl, rfl, rfl, rfl, rfl, rfl, rfl, rfl⟩
@[simp] theorem beginOnFreeBus_frame (r : List Nat) (s : State) :
    (beginOnFreeBus r s).now = s.now ∧ (beginOnFreeBus r s).inReset = s.inReset ∧
    (beginOnFreeBus r s).scu = s.scu ∧ (beginOnFreeBus r s).tmu = s.tmu ∧
    (beginOnFreeBus r s).store = s.store ∧ (beginOnFreeBus r s).cue = s.cue ∧
    (beginOnFreeBus r s).clu = s.clu ∧ (beginOnFreeBus r s).vu = s.vu ∧
    (beginOnFreeBus r s).freeIdx = s.freeIdx ∧ (beginOnFreeBus r s).pending = s.pending ∧
    (beginOnFreeBus r s).answers = s.answers := by
  simp only [beginOnFreeBus]
  (repeat' split) <;> simp
@[simp] theorem endExchange_frame (s : State) :
    (endExchange s).now = s.now ∧ (endExchange s).inReset = s.inReset ∧ (endExchange s).scu = s.scu ∧
    (endExchange s).tmu = s.tmu ∧ (endExchange s).store = s.store ∧ (endExchange s).cue = s.cue ∧
    (endExchange s).pdu = s.pdu ∧ (endExchange s).clu = s.clu ∧ (endExchange s).vu = s.vu ∧
    (endExchange s).freeIdx = s.freeIdx ∧ (endExchange s).pending = s.pending ∧
    (endExchange s).answers = s.answers := by
  refine ⟨?_, ?_, ?_, ?_, ?_, ?_, ?_, ?_, ?_, ?_, ?_, ?_⟩ <;> simp [endExchange]
@[simp] theorem endWindowLost_frame (s : State) :
    (endWindowLost s).now = s.now ∧ (endWindowLost s).inReset = s.inReset ∧ (endWindowLost s).scu = s.scu ∧
    (endWindowLost s).tmu = s.tmu ∧ (endWindowLost s).store = s.store ∧ (endWindowLost s).cue = s.cue ∧
    (endWindowLost s).pdu = s.pdu ∧ (endWindowLost s).clu = s.clu ∧ (endWindowLost s).vu = s.vu ∧
    (endWindowLost s).freeIdx = s.freeIdx ∧ (endWindowLost s).pending = s.pending ∧
    (endWindowLost s).answers = s.answers := by
  refine ⟨?_, ?_, ?_, ?_, ?_, ?_, ?_, ?_, ?_, ?_, ?_, ?_⟩ <;> simp [endWindowLost]
@[simp] theorem discardFrame_frame (s : State) :
    (discardFrame s).now = s.now ∧ (discardFrame s).inReset = s.inReset ∧ (discardFrame s).scu = s.scu ∧
    (discardFrame s).tmu = s.tmu ∧ (discardFrame s).store = s.store ∧ (discardFrame s).cue = s.cue ∧
    (discardFrame s).pdu = s.pdu ∧ (discardFrame s).clu = s.clu ∧ (discardFrame s).vu = s.vu ∧
    (discardFrame s).freeIdx = s.freeIdx ∧ (discardFrame s).pending = s.pending ∧
    (discardFrame s).answers = s.answers := by
  refine ⟨?_, ?_, ?_, ?_, ?_, ?_, ?_, ?_, ?_, ?_, ?_, ?_⟩ <;> simp [discardFrame]
@[simp] theorem lateReply_frame (n : Nat) (s : State) :
    (lateReply n s).now = s.now ∧ (lateReply n s).inReset = s.inReset ∧ (lateReply n s).scu = s.scu ∧
    (lateReply n s).tmu = s.tmu ∧ (lateReply n s).store = s.store ∧ (lateReply n s).cue = s.cue ∧
    (lateReply n s).pdu = s.pdu ∧ (lateReply n s).clu = s.clu ∧ (lateReply n s).vu = s.vu ∧
    (lateReply n s).freeIdx = s.freeIdx ∧ (lateReply n s).pending = s.pending ∧
    (lateReply n s).answers = s.answers := by
  refine ⟨?_, ?_, ?_, ?_, ?_, ?_, ?_, ?_, ?_, ?_, ?_, ?_⟩ <;> simp [lateReply]
@[simp] theorem answerReport_frame (n : Nat) (f : OutFrame) (s : State) :
    (answerReport n f s).now = s.now ∧ (answerReport n f s).inReset = s.inReset ∧
    (answerReport n f s).scu = s.scu ∧ (answerReport n f s).tmu = s.tmu ∧
    (answerReport n f s).store = s.store ∧ (answerReport n f s).cue = s.cue ∧
    (answerReport n f s).pdu = s.pdu ∧ (answerReport n f s).clu = s.clu ∧ (answerReport n f s).vu = s.vu ∧
    (answerReport n f s).freeIdx = s.freeIdx ∧ (answerReport n f s).pending = s.pending ∧
    (answerReport n f s).answers = s.answers := by
  refine ⟨?_, ?_, ?_, ?_, ?_, ?_, ?_, ?_, ?_, ?_, ?_, ?_⟩ <;> simp [answerReport]
@[simp] theorem goodProbe_frame (n : Nat) (a b : Int) (s : State) :
    (goodProbe n a b s).now = s.now ∧ (goodProbe n a b s).inReset = s.inReset ∧
    (goodProbe n a b s).scu = s.scu ∧ (goodProbe n a b s).tmu = s.tmu ∧
    (goodProbe n a b s).store = s.store ∧ (goodProbe n a b s).cue = s.cue ∧
    (goodProbe n a b s).pdu = s.pdu ∧ (goodProbe n a b s).clu = s.clu ∧ (goodProbe n a b s).vu = s.vu ∧
    (goodProbe n a b s).freeIdx = s.freeIdx ∧ (goodProbe n a b s).pending = s.pending ∧
    (goodProbe n a b s).answers = s.answers := by
  refine ⟨?_, ?_, ?_, ?_, ?_, ?_, ?_, ?_, ?_, ?_, ?_, ?_⟩ <;> simp [goodProbe]
@[simp] theorem takeSample_frame (n a b c d : Nat) (s : State) :
    (takeSample n a b c d s).now = s.now ∧ (takeSample n a b c d s).inReset = s.inReset ∧
    (takeSample n a b c d s).scu = s.scu ∧ (takeSample n a b c d s).tmu = s.tmu ∧
    (takeSample n a b c d s).store = s.store ∧ (takeSample n a b c d s).cue = s.cue ∧
    (takeSample n a b c d s).pdu = s.pdu ∧ (takeSample n a b c d s).clu = s.clu ∧
    (takeSample n a b c d s).vu = s.vu ∧ (takeSample n a b c d s).freeIdx = s.freeIdx ∧
    (takeSample n a b c d s).pending = s.pending ∧ (takeSample n a b c d s).answers = s.answers := by
  refine ⟨?_, ?_, ?_, ?_, ?_, ?_, ?_, ?_, ?_, ?_, ?_, ?_⟩ <;> first
  | (simp [takeSample]; done)
  | (simp only [takeSample]; (repeat' split) <;> simp)
@[simp] theorem tellNoReply_frame (x : Exchange) (s : State) :
    (tellNoReply x s).now = s.now ∧ (tellNoReply x s).inReset = s.inReset ∧ (tellNoReply x s).tmu = s.tmu ∧
    (tellNoReply x s).store = s.store ∧ (tellNoReply x s).cue = s.cue ∧ (tellNoReply x s).clu = s.clu ∧
    (tellNoReply x s).vu = s.vu ∧ (tellNoReply x s).freeIdx = s.freeIdx ∧
    (tellNoReply x s).pending = s.pending ∧ (tellNoReply x s).answers = s.answers := by
  refine ⟨?_, ?_, ?_, ?_, ?_, ?_, ?_, ?_, ?_, ?_⟩ <;> first
  | (simp [tellNoReply]; done)
  | (simp only [tellNoReply]; (repeat' split) <;> simp)
@[simp] theorem setStandby_frame (c : Option Nat) (s : State) :
    (setStandby c s).now = s.now ∧ (setStandby c s).inReset = s.inReset ∧ (setStandby c s).scu = s.scu ∧
    (setStandby c s).tmu = s.tmu ∧ (setStandby c s).store = s.store ∧ (setStandby c s).pdu = s.pdu ∧
    (setStandby c s).pbc = s.pbc ∧ (setStandby c s).clu = s.clu ∧ (setStandby c s).freeIdx = s.freeIdx ∧
    (setStandby c s).pending = s.pending ∧ (setStandby c s).answers = s.answers := by
  refine ⟨?_, ?_, ?_, ?_, ?_, ?_, ?_, ?_, ?_, ?_, ?_⟩ <;> simp [setStandby]
@[simp] theorem vampExitStep_frame (s : State) :
    (vampExitStep s).1.now = s.now ∧ (vampExitStep s).1.inReset = s.inReset ∧
    (vampExitStep s).1.tmu = s.tmu ∧ (vampExitStep s).1.store = s.store ∧ (vampExitStep s).1.cue = s.cue ∧
    (vampExitStep s).1.pdu = s.pdu ∧ (vampExitStep s).1.pbc = s.pbc ∧ (vampExitStep s).1.clu = s.clu ∧
    (vampExitStep s).1.vu = s.vu ∧ (vampExitStep s).1.freeIdx = s.freeIdx ∧
    (vampExitStep s).1.pending = s.pending ∧ (vampExitStep s).1.answers = s.answers := by
  refine ⟨?_, ?_, ?_, ?_, ?_, ?_, ?_, ?_, ?_, ?_, ?_, ?_⟩ <;> first
  | (simp [vampExitStep]; done)
  | (simp only [vampExitStep]; (repeat' split) <;> simp)
@[simp] theorem runAction_frame (c : Cue) (b : RunBy) (a : Action) (s : State) :
    (runAction c b s a).now = s.now ∧ (runAction c b s a).inReset = s.inReset ∧
    (runAction c b s a).store = s.store ∧ (runAction c b s a).cue = s.cue ∧
    (runAction c b s a).pbc = s.pbc ∧ (runAction c b s a).freeIdx = s.freeIdx ∧
    (runAction c b s a).pending = s.pending ∧ (runAction c b s a).answers = s.answers := by
  refine ⟨?_, ?_, ?_, ?_, ?_, ?_, ?_, ?_⟩ <;> first
  | (simp [runAction]; done)
  | (simp only [runAction]; (repeat' split) <;> simp)
@[simp] theorem runCue_frame (b : RunBy) (e : CueEntry) (s : State) :
    (runCue b s e).now = s.now ∧ (runCue b s e).inReset = s.inReset ∧ (runCue b s e).pbc = s.pbc ∧
    (runCue b s e).freeIdx = s.freeIdx ∧ (runCue b s e).pending = s.pending ∧
    (runCue b s e).answers = s.answers := by
  refine ⟨?_, ?_, ?_, ?_, ?_, ?_⟩ <;> simp [runCue]
@[simp] theorem tellSkipped_frame (n : Nat) (l : List Nat) (s : State) :
    (tellSkipped n l s).now = s.now ∧ (tellSkipped n l s).inReset = s.inReset ∧
    (tellSkipped n l s).scu = s.scu ∧ (tellSkipped n l s).tmu = s.tmu ∧
    (tellSkipped n l s).store = s.store ∧ (tellSkipped n l s).pdu = s.pdu ∧
    (tellSkipped n l s).pbc = s.pbc ∧ (tellSkipped n l s).clu = s.clu ∧ (tellSkipped n l s).vu = s.vu ∧
    (tellSkipped n l s).freeIdx = s.freeIdx ∧ (tellSkipped n l s).pending = s.pending ∧
    (tellSkipped n l s).answers = s.answers := by
  refine ⟨?_, ?_, ?_, ?_, ?_, ?_, ?_, ?_, ?_, ?_, ?_, ?_⟩ <;> first
  | (simp [tellSkipped]; done)
  | (simp only [tellSkipped]; (repeat' split) <;> simp)
@[simp] theorem goRun_frame (e : CueEntry) (s : State) :
    (goRun e s).now = s.now ∧ (goRun e s).inReset = s.inReset ∧ (goRun e s).pbc = s.pbc ∧
    (goRun e s).freeIdx = s.freeIdx ∧ (goRun e s).pending = s.pending ∧
    (goRun e s).answers = s.answers := by
  refine ⟨?_, ?_, ?_, ?_, ?_, ?_⟩ <;> simp [goRun]
@[simp] theorem positionalStep_frame (g : GridBeat) (s : State) :
    (positionalStep g s).now = s.now ∧ (positionalStep g s).inReset = s.inReset ∧
    (positionalStep g s).pbc = s.pbc ∧ (positionalStep g s).freeIdx = s.freeIdx ∧
    (positionalStep g s).pending = s.pending ∧ (positionalStep g s).answers = s.answers := by
  refine ⟨?_, ?_, ?_, ?_, ?_, ?_⟩ <;> simp [positionalStep]
@[simp] theorem takeCue_frame (h : HandOver) (s : State) :
    (takeCue s h).now = s.now ∧ (takeCue s h).inReset = s.inReset ∧ (takeCue s h).pbc = s.pbc ∧
    (takeCue s h).freeIdx = s.freeIdx ∧ (takeCue s h).pending = s.pending ∧
    offRig (takeCue s h).answers = offRig s.answers := by
  refine ⟨?_, ?_, ?_, ?_, ?_, ?_⟩ <;> first
  | (simp [takeCue]; done)
  | (simp only [takeCue]; (repeat' split) <;> simp)
@[simp] theorem drainCue_frame (s : State) :
    (drainCue s).now = s.now ∧ (drainCue s).inReset = s.inReset ∧ (drainCue s).pbc = s.pbc ∧
    (drainCue s).freeIdx = s.freeIdx ∧ (drainCue s).pending = s.pending ∧
    offRig (drainCue s).answers = offRig s.answers := by
  refine ⟨?_, ?_, ?_, ?_, ?_, ?_⟩ <;> simp [drainCue]
@[simp] theorem resolvePair_frame (a b : Nat) (p : Nat × Nat) (s : State) :
    (resolvePair a b s p).now = s.now ∧ (resolvePair a b s p).inReset = s.inReset ∧
    (resolvePair a b s p).tmu = s.tmu ∧ (resolvePair a b s p).store = s.store ∧
    (resolvePair a b s p).pbc = s.pbc ∧
    (resolvePair a b s p).clu = s.clu ∧ (resolvePair a b s p).vu = s.vu ∧
    (resolvePair a b s p).freeIdx = s.freeIdx ∧ (resolvePair a b s p).pending = s.pending ∧
    (resolvePair a b s p).answers = s.answers := by
  simp only [resolvePair]
  (repeat' split) <;> simp
@[simp] theorem handChanges_frame (a b : Nat) (s : State) :
    (handChanges a b s).now = s.now ∧ (handChanges a b s).inReset = s.inReset ∧
    (handChanges a b s).pbc = s.pbc ∧ (handChanges a b s).pending = s.pending ∧
    offRig (handChanges a b s).answers = offRig s.answers := by
  refine ⟨?_, ?_, ?_, ?_, ?_⟩ <;> simp [handChanges]
@[simp] theorem resolution_frame (a b : Nat) (s : State) :
    (resolution a b s).now = s.now ∧ (resolution a b s).inReset = s.inReset ∧
    (resolution a b s).pbc = s.pbc ∧ (resolution a b s).pending = s.pending ∧
    offRig (resolution a b s).answers = offRig s.answers := by
  refine ⟨?_, ?_, ?_, ?_, ?_⟩ <;> simp [resolution]
@[simp] theorem handSegment_frame (s : State) :
    (handSegment s).now = s.now ∧ (handSegment s).inReset = s.inReset ∧ (handSegment s).scu = s.scu ∧
    (handSegment s).store = s.store ∧ (handSegment s).cue = s.cue ∧ (handSegment s).pdu = s.pdu ∧
    (handSegment s).pbc = s.pbc ∧ (handSegment s).clu = s.clu ∧ (handSegment s).freeIdx = s.freeIdx ∧
    (handSegment s).pending = s.pending ∧ offRig (handSegment s).answers = offRig s.answers := by
  refine ⟨?_, ?_, ?_, ?_, ?_, ?_, ?_, ?_, ?_, ?_, ?_⟩ <;> first
  | (simp [handSegment]; done)
  | (simp only [handSegment]; (repeat' split) <;> simp)
@[simp] theorem endCountIn_frame (s : State) :
    (endCountIn s).now = s.now ∧ (endCountIn s).inReset = s.inReset ∧ (endCountIn s).store = s.store ∧
    (endCountIn s).cue = s.cue ∧ (endCountIn s).pdu = s.pdu ∧ (endCountIn s).pbc = s.pbc ∧
    (endCountIn s).clu = s.clu ∧ (endCountIn s).freeIdx = s.freeIdx ∧ (endCountIn s).pending = s.pending ∧
    offRig (endCountIn s).answers = offRig s.answers := by
  refine ⟨?_, ?_, ?_, ?_, ?_, ?_, ?_, ?_, ?_, ?_⟩ <;> first
  | (simp [endCountIn]; done)
  | (simp only [endCountIn]; (repeat' split) <;> simp)
@[simp] theorem segue_frame (g : Song) (s : State) :
    (segue g s).now = s.now ∧ (segue g s).inReset = s.inReset ∧ (segue g s).pbc = s.pbc ∧
    (segue g s).pending = s.pending ∧ offRig (segue g s).answers = offRig s.answers := by
  refine ⟨?_, ?_, ?_, ?_, ?_⟩ <;> simp [segue]
@[simp] theorem endToDark_frame (s : State) :
    (endToDark s).now = s.now ∧ (endToDark s).inReset = s.inReset ∧ (endToDark s).store = s.store ∧
    (endToDark s).cue = s.cue ∧ (endToDark s).pdu = s.pdu ∧ (endToDark s).pbc = s.pbc ∧
    (endToDark s).clu = s.clu ∧ (endToDark s).freeIdx = s.freeIdx ∧ (endToDark s).pending = s.pending ∧
    offRig (endToDark s).answers = offRig s.answers := by
  refine ⟨?_, ?_, ?_, ?_, ?_, ?_, ?_, ?_, ?_, ?_⟩ <;> simp [endToDark]
@[simp] theorem deliver_frame (i : Count32) (a b : Nat) (x y z : Bool) (s : State) :
    (deliver i a b x y z s).now = s.now ∧ (deliver i a b x y z s).inReset = s.inReset ∧
    (deliver i a b x y z s).scu = s.scu ∧ (deliver i a b x y z s).store = s.store ∧
    (deliver i a b x y z s).pbc = s.pbc ∧ (deliver i a b x y z s).freeIdx = s.freeIdx ∧
    (deliver i a b x y z s).pending = s.pending ∧ (deliver i a b x y z s).answers = s.answers := by
  refine ⟨?_, ?_, ?_, ?_, ?_, ?_, ?_, ?_⟩ <;> simp [deliver]
@[simp] theorem stepRunning_frame (i : Count32) (a b : Nat) (s : State) :
    (stepRunning i a b s).now = s.now ∧ (stepRunning i a b s).inReset = s.inReset ∧
    (stepRunning i a b s).pbc = s.pbc ∧ (stepRunning i a b s).pending = s.pending ∧
    offRig (stepRunning i a b s).answers = offRig s.answers := by
  refine ⟨?_, ?_, ?_, ?_, ?_⟩ <;> first
  | (simp [stepRunning]; done)
  | (simp only [stepRunning]; (repeat' split) <;> simp)
@[simp] theorem stepCountIn_frame (i : Count32) (a b : Nat) (s : State) :
    (stepCountIn i a b s).now = s.now ∧ (stepCountIn i a b s).inReset = s.inReset ∧
    (stepCountIn i a b s).store = s.store ∧ (stepCountIn i a b s).pbc = s.pbc ∧
    (stepCountIn i a b s).freeIdx = s.freeIdx ∧ (stepCountIn i a b s).pending = s.pending ∧
    offRig (stepCountIn i a b s).answers = offRig s.answers := by
  refine ⟨?_, ?_, ?_, ?_, ?_, ?_, ?_⟩ <;> first
  | (simp [stepCountIn]; done)
  | (simp only [stepCountIn]; (repeat' split) <;> simp)
@[simp] theorem takeBeat_frame (st : Bool) (i : Count32) (a b : Nat) (s : State) :
    (takeBeat st i a b s).now = s.now ∧ (takeBeat st i a b s).inReset = s.inReset ∧
    (takeBeat st i a b s).pbc = s.pbc ∧ (takeBeat st i a b s).pending = s.pending ∧
    offRig (takeBeat st i a b s).answers = offRig s.answers := by
  refine ⟨?_, ?_, ?_, ?_, ?_⟩ <;> first
  | (simp [takeBeat]; done)
  | (simp only [takeBeat]; (repeat' split) <;> simp)
@[simp] theorem emitAndTake_frame (s : State) :
    (emitAndTake s).now = s.now ∧ (emitAndTake s).inReset = s.inReset ∧ (emitAndTake s).pbc = s.pbc ∧
    (emitAndTake s).pending = s.pending ∧ offRig (emitAndTake s).answers = offRig s.answers := by
  refine ⟨?_, ?_, ?_, ?_, ?_⟩ <;> simp [emitAndTake]
@[simp] theorem resolveAndJudge_frame (a b : Nat) (s : State) :
    (resolveAndJudge a b s).now = s.now ∧ (resolveAndJudge a b s).inReset = s.inReset ∧
    (resolveAndJudge a b s).pbc = s.pbc ∧ (resolveAndJudge a b s).pending = s.pending ∧
    offRig (resolveAndJudge a b s).answers = offRig s.answers := by
  refine ⟨?_, ?_, ?_, ?_, ?_⟩ <;> simp [resolveAndJudge]
@[simp] theorem finishReset_frame (s : State) :
    (finishReset s).now = s.now ∧ (finishReset s).inReset = s.inReset ∧ (finishReset s).pbc = s.pbc ∧
    (finishReset s).pending = s.pending ∧ offRig (finishReset s).answers = offRig s.answers := by
  unfold finishReset
  split <;> simp
@[simp] theorem armAt_frame (a b : Nat) (s : State) :
    (armAt a b s).now = s.now ∧ (armAt a b s).inReset = s.inReset ∧ (armAt a b s).pbc = s.pbc ∧
    (armAt a b s).pending = s.pending ∧ offRig (armAt a b s).answers = offRig s.answers := by
  refine ⟨?_, ?_, ?_, ?_, ?_⟩ <;> simp [armAt]
@[simp] theorem countFrom_frame (a : Nat) (g : Song) (x : Segment) (s : State) :
    (countFrom a g x s).now = s.now ∧ (countFrom a g x s).inReset = s.inReset ∧
    (countFrom a g x s).store = s.store ∧ (countFrom a g x s).cue = s.cue ∧
    (countFrom a g x s).pdu = s.pdu ∧ (countFrom a g x s).pbc = s.pbc ∧ (countFrom a g x s).clu = s.clu ∧
    (countFrom a g x s).freeIdx = s.freeIdx ∧ (countFrom a g x s).pending = s.pending ∧
    offRig (countFrom a g x s).answers = offRig s.answers := by
  refine ⟨?_, ?_, ?_, ?_, ?_, ?_, ?_, ?_, ?_, ?_⟩ <;> first
  | (simp [countFrom]; done)
  | (simp only [countFrom]; (repeat' split) <;> simp)
@[simp] theorem enterHold_frame (o : Origin) (s : State) :
    (enterHold o s).now = s.now ∧ (enterHold o s).inReset = s.inReset ∧ (enterHold o s).store = s.store ∧
    (enterHold o s).pbc = s.pbc ∧ (enterHold o s).freeIdx = s.freeIdx ∧
    (enterHold o s).pending = s.pending ∧ (enterHold o s).answers = s.answers := by
  refine ⟨?_, ?_, ?_, ?_, ?_, ?_, ?_⟩ <;> simp [enterHold]
@[simp] theorem addOrigin_frame (o : Origin) (s : State) :
    (addOrigin o s).now = s.now ∧ (addOrigin o s).inReset = s.inReset ∧ (addOrigin o s).store = s.store ∧
    (addOrigin o s).pbc = s.pbc ∧ (addOrigin o s).freeIdx = s.freeIdx ∧
    (addOrigin o s).pending = s.pending ∧ (addOrigin o s).answers = s.answers := by
  refine ⟨?_, ?_, ?_, ?_, ?_, ?_, ?_⟩ <;> simp [addOrigin]
@[simp] theorem recordExit_frame (e : StopExit) (s : State) :
    (recordExit e s).now = s.now ∧ (recordExit e s).inReset = s.inReset ∧ (recordExit e s).tmu = s.tmu ∧
    (recordExit e s).store = s.store ∧ (recordExit e s).cue = s.cue ∧ (recordExit e s).pdu = s.pdu ∧
    (recordExit e s).pbc = s.pbc ∧ (recordExit e s).clu = s.clu ∧ (recordExit e s).vu = s.vu ∧
    (recordExit e s).freeIdx = s.freeIdx ∧ (recordExit e s).pending = s.pending ∧
    (recordExit e s).answers = s.answers := by
  refine ⟨?_, ?_, ?_, ?_, ?_, ?_, ?_, ?_, ?_, ?_, ?_, ?_⟩ <;> simp [recordExit]
@[simp] theorem exitPreparing_frame (r : Restart) (s : State) :
    (exitPreparing r s).now = s.now ∧ (exitPreparing r s).inReset = s.inReset ∧
    (exitPreparing r s).pbc = s.pbc ∧ (exitPreparing r s).pending = s.pending ∧
    offRig (exitPreparing r s).answers = offRig s.answers := by
  refine ⟨?_, ?_, ?_, ?_, ?_⟩ <;> simp [exitPreparing]
@[simp] theorem exitDark_frame (s : State) :
    (exitDark s).now = s.now ∧ (exitDark s).inReset = s.inReset ∧ (exitDark s).tmu = s.tmu ∧
    (exitDark s).store = s.store ∧ (exitDark s).cue = s.cue ∧ (exitDark s).pdu = s.pdu ∧
    (exitDark s).pbc = s.pbc ∧ (exitDark s).clu = s.clu ∧ (exitDark s).freeIdx = s.freeIdx ∧
    (exitDark s).pending = s.pending ∧ offRig (exitDark s).answers = offRig s.answers := by
  refine ⟨?_, ?_, ?_, ?_, ?_, ?_, ?_, ?_, ?_, ?_, ?_⟩ <;> simp [exitDark]
@[simp] theorem judgeExit_frame (s : State) :
    (judgeExit s).now = s.now ∧ (judgeExit s).inReset = s.inReset ∧ (judgeExit s).pbc = s.pbc ∧
    (judgeExit s).pending = s.pending ∧ offRig (judgeExit s).answers = offRig s.answers := by
  refine ⟨?_, ?_, ?_, ?_, ?_⟩ <;> first
  | (simp [judgeExit]; done)
  | (simp only [judgeExit]; (repeat' split) <;> simp)
@[simp] theorem lineRelease_frame (o : Origin) (s : State) :
    (lineRelease o s).now = s.now ∧ (lineRelease o s).inReset = s.inReset ∧ (lineRelease o s).pbc = s.pbc ∧
    (lineRelease o s).pending = s.pending ∧ offRig (lineRelease o s).answers = offRig s.answers := by
  refine ⟨?_, ?_, ?_, ?_, ?_⟩ <;> simp [lineRelease]
@[simp] theorem settleLine_frame (l : StopLine) (s : State) :
    (settleLine l s).now = s.now ∧ (settleLine l s).inReset = s.inReset ∧ (settleLine l s).pbc = s.pbc ∧
    (settleLine l s).pending = s.pending ∧ offRig (settleLine l s).answers = offRig s.answers := by
  refine ⟨?_, ?_, ?_, ?_, ?_⟩ <;> simp [settleLine]
@[simp] theorem readdLine_frame (l : StopLine) (s : State) :
    (readdLine s l).now = s.now ∧ (readdLine s l).inReset = s.inReset ∧ (readdLine s l).store = s.store ∧
    (readdLine s l).pbc = s.pbc ∧ (readdLine s l).freeIdx = s.freeIdx ∧
    (readdLine s l).pending = s.pending ∧ (readdLine s l).answers = s.answers := by
  refine ⟨?_, ?_, ?_, ?_, ?_, ?_, ?_⟩ <;> simp [readdLine]
@[simp] theorem endStopByReset_frame (s : State) :
    (endStopByReset s).now = s.now ∧ (endStopByReset s).inReset = s.inReset ∧
    (endStopByReset s).tmu = s.tmu ∧ (endStopByReset s).store = s.store ∧ (endStopByReset s).cue = s.cue ∧
    (endStopByReset s).pdu = s.pdu ∧ (endStopByReset s).pbc = s.pbc ∧ (endStopByReset s).clu = s.clu ∧
    (endStopByReset s).freeIdx = s.freeIdx ∧ (endStopByReset s).pending = s.pending ∧
    offRig (endStopByReset s).answers = offRig s.answers := by
  refine ⟨?_, ?_, ?_, ?_, ?_, ?_, ?_, ?_, ?_, ?_, ?_⟩ <;> simp [endStopByReset]
@[simp] theorem sealConditions_frame (s : State) :
    (sealConditions s).now = s.now ∧ (sealConditions s).inReset = s.inReset ∧
    (sealConditions s).scu = s.scu ∧ (sealConditions s).tmu = s.tmu ∧ (sealConditions s).store = s.store ∧
    (sealConditions s).cue = s.cue ∧ (sealConditions s).pdu = s.pdu ∧ (sealConditions s).pbc = s.pbc ∧
    (sealConditions s).clu = s.clu ∧ (sealConditions s).vu = s.vu ∧ (sealConditions s).freeIdx = s.freeIdx ∧
    (sealConditions s).pending = s.pending ∧ (sealConditions s).answers = s.answers := by
  refine ⟨?_, ?_, ?_, ?_, ?_, ?_, ?_, ?_, ?_, ?_, ?_, ?_, ?_⟩ <;> simp [sealConditions]
@[simp] theorem breakSeal_frame (s : State) :
    (breakSeal s).now = s.now ∧ (breakSeal s).inReset = s.inReset ∧ (breakSeal s).scu = s.scu ∧
    (breakSeal s).tmu = s.tmu ∧ (breakSeal s).cue = s.cue ∧ (breakSeal s).pdu = s.pdu ∧
    (breakSeal s).pbc = s.pbc ∧ (breakSeal s).clu = s.clu ∧ (breakSeal s).vu = s.vu ∧
    (breakSeal s).freeIdx = s.freeIdx ∧ (breakSeal s).pending = s.pending ∧
    (breakSeal s).answers = s.answers := by
  refine ⟨?_, ?_, ?_, ?_, ?_, ?_, ?_, ?_, ?_, ?_, ?_, ?_⟩ <;> simp [breakSeal]
@[simp] theorem endPass_frame (s : State) :
    (endPass s).now = s.now ∧ (endPass s).inReset = s.inReset ∧ (endPass s).scu = s.scu ∧
    (endPass s).tmu = s.tmu ∧ (endPass s).cue = s.cue ∧ (endPass s).pdu = s.pdu ∧ (endPass s).pbc = s.pbc ∧
    (endPass s).clu = s.clu ∧ (endPass s).vu = s.vu ∧ (endPass s).freeIdx = s.freeIdx ∧
    (endPass s).pending = s.pending ∧ (endPass s).answers = s.answers := by
  refine ⟨?_, ?_, ?_, ?_, ?_, ?_, ?_, ?_, ?_, ?_, ?_, ?_⟩ <;> first
  | (simp [endPass]; done)
  | (simp only [endPass]; (repeat' split) <;> simp)
@[simp] theorem clearHeld_frame (n : Nat) (s : State) :
    (clearHeld n s).now = s.now ∧ (clearHeld n s).inReset = s.inReset ∧ (clearHeld n s).tmu = s.tmu ∧
    (clearHeld n s).store = s.store ∧ (clearHeld n s).pdu = s.pdu ∧ (clearHeld n s).pbc = s.pbc ∧
    (clearHeld n s).clu = s.clu ∧ (clearHeld n s).vu = s.vu ∧ (clearHeld n s).freeIdx = s.freeIdx ∧
    (clearHeld n s).pending = s.pending ∧ (clearHeld n s).answers = s.answers := by
  refine ⟨?_, ?_, ?_, ?_, ?_, ?_, ?_, ?_, ?_, ?_, ?_⟩ <;> simp [clearHeld]
@[simp] theorem makeWrite_frame (p : List StorePart) (f : Store → Store) (s : State) :
    (makeWrite p f s).now = s.now ∧ (makeWrite p f s).inReset = s.inReset ∧ (makeWrite p f s).scu = s.scu ∧
    (makeWrite p f s).tmu = s.tmu ∧ (makeWrite p f s).cue = s.cue ∧ (makeWrite p f s).pdu = s.pdu ∧
    (makeWrite p f s).pbc = s.pbc ∧ (makeWrite p f s).clu = s.clu ∧ (makeWrite p f s).vu = s.vu ∧
    (makeWrite p f s).freeIdx = s.freeIdx ∧ (makeWrite p f s).pending = s.pending ∧
    (makeWrite p f s).answers = s.answers := by
  refine ⟨?_, ?_, ?_, ?_, ?_, ?_, ?_, ?_, ?_, ?_, ?_, ?_⟩ <;> simp [makeWrite]
@[simp] theorem songWritten_frame (n : Nat) (g : Option Song) (s : State) :
    (songWritten n g s).now = s.now ∧ (songWritten n g s).inReset = s.inReset ∧
    (songWritten n g s).tmu = s.tmu ∧ (songWritten n g s).pdu = s.pdu ∧ (songWritten n g s).pbc = s.pbc ∧
    (songWritten n g s).clu = s.clu ∧ (songWritten n g s).vu = s.vu ∧
    (songWritten n g s).freeIdx = s.freeIdx ∧ (songWritten n g s).pending = s.pending ∧
    (songWritten n g s).answers = s.answers := by
  refine ⟨?_, ?_, ?_, ?_, ?_, ?_, ?_, ?_, ?_, ?_⟩ <;> simp [songWritten]
@[simp] theorem cueWritten_frame (c : Cue) (s : State) :
    (cueWritten c s).now = s.now ∧ (cueWritten c s).inReset = s.inReset ∧ (cueWritten c s).scu = s.scu ∧
    (cueWritten c s).tmu = s.tmu ∧ (cueWritten c s).cue = s.cue ∧ (cueWritten c s).pdu = s.pdu ∧
    (cueWritten c s).pbc = s.pbc ∧ (cueWritten c s).clu = s.clu ∧ (cueWritten c s).vu = s.vu ∧
    (cueWritten c s).freeIdx = s.freeIdx ∧ (cueWritten c s).pending = s.pending ∧
    (cueWritten c s).answers = s.answers := by
  refine ⟨?_, ?_, ?_, ?_, ?_, ?_, ?_, ?_, ?_, ?_, ?_, ?_⟩ <;> simp [cueWritten]
@[simp] theorem cueDeleted_frame (n : Nat) (s : State) :
    (cueDeleted n s).now = s.now ∧ (cueDeleted n s).inReset = s.inReset ∧ (cueDeleted n s).scu = s.scu ∧
    (cueDeleted n s).tmu = s.tmu ∧ (cueDeleted n s).pdu = s.pdu ∧ (cueDeleted n s).pbc = s.pbc ∧
    (cueDeleted n s).clu = s.clu ∧ (cueDeleted n s).freeIdx = s.freeIdx ∧
    (cueDeleted n s).pending = s.pending ∧ (cueDeleted n s).answers = s.answers := by
  refine ⟨?_, ?_, ?_, ?_, ?_, ?_, ?_, ?_, ?_, ?_⟩ <;> simp [cueDeleted]
@[simp] theorem dropStation_frame (n : Nat) (s : State) :
    (dropStation s n).now = s.now ∧ (dropStation s n).inReset = s.inReset ∧ (dropStation s n).tmu = s.tmu ∧
    (dropStation s n).store = s.store ∧ (dropStation s n).cue = s.cue ∧ (dropStation s n).clu = s.clu ∧
    (dropStation s n).vu = s.vu ∧ (dropStation s n).freeIdx = s.freeIdx ∧
    (dropStation s n).pending = s.pending ∧ (dropStation s n).answers = s.answers := by
  refine ⟨?_, ?_, ?_, ?_, ?_, ?_, ?_, ?_, ?_, ?_⟩ <;> simp [dropStation]
@[simp] theorem rosterWritten_frame (r : List Nat) (s : State) :
    (rosterWritten r s).now = s.now ∧ (rosterWritten r s).inReset = s.inReset ∧
    (rosterWritten r s).tmu = s.tmu ∧ (rosterWritten r s).cue = s.cue ∧ (rosterWritten r s).clu = s.clu ∧
    (rosterWritten r s).vu = s.vu ∧ (rosterWritten r s).freeIdx = s.freeIdx ∧
    (rosterWritten r s).pending = s.pending ∧ (rosterWritten r s).answers = s.answers := by
  refine ⟨?_, ?_, ?_, ?_, ?_, ?_, ?_, ?_, ?_⟩ <;> simp [rosterWritten]
@[simp] theorem laneBaseWritten_frame (n : Nat) (b : LaneBase) (s : State) :
    (laneBaseWritten n b s).now = s.now ∧ (laneBaseWritten n b s).inReset = s.inReset ∧
    (laneBaseWritten n b s).scu = s.scu ∧ (laneBaseWritten n b s).tmu = s.tmu ∧
    (laneBaseWritten n b s).cue = s.cue ∧ (laneBaseWritten n b s).pdu = s.pdu ∧
    (laneBaseWritten n b s).pbc = s.pbc ∧ (laneBaseWritten n b s).vu = s.vu ∧
    (laneBaseWritten n b s).freeIdx = s.freeIdx ∧ (laneBaseWritten n b s).pending = s.pending ∧
    (laneBaseWritten n b s).answers = s.answers := by
  refine ⟨?_, ?_, ?_, ?_, ?_, ?_, ?_, ?_, ?_, ?_, ?_⟩ <;> simp [laneBaseWritten]
@[simp] theorem feedBaseWritten_frame (n : Nat) (b : FeedBase) (s : State) :
    (feedBaseWritten n b s).now = s.now ∧ (feedBaseWritten n b s).inReset = s.inReset ∧
    (feedBaseWritten n b s).scu = s.scu ∧ (feedBaseWritten n b s).tmu = s.tmu ∧
    (feedBaseWritten n b s).cue = s.cue ∧ (feedBaseWritten n b s).pdu = s.pdu ∧
    (feedBaseWritten n b s).pbc = s.pbc ∧ (feedBaseWritten n b s).clu = s.clu ∧
    (feedBaseWritten n b s).freeIdx = s.freeIdx ∧ (feedBaseWritten n b s).pending = s.pending ∧
    (feedBaseWritten n b s).answers = s.answers := by
  refine ⟨?_, ?_, ?_, ?_, ?_, ?_, ?_, ?_, ?_, ?_, ?_⟩ <;> simp [feedBaseWritten]
@[simp] theorem strike_frame (p : StorePart) (n : Nat) (v : Byte) (s : State) :
    (strike p n v s).now = s.now ∧ (strike p n v s).inReset = s.inReset ∧ (strike p n v s).scu = s.scu ∧
    (strike p n v s).tmu = s.tmu ∧ (strike p n v s).cue = s.cue ∧ (strike p n v s).pdu = s.pdu ∧
    (strike p n v s).pbc = s.pbc ∧ (strike p n v s).clu = s.clu ∧ (strike p n v s).vu = s.vu ∧
    (strike p n v s).pending = s.pending ∧ (strike p n v s).answers = s.answers := by
  simp only [strike, passGoesOn]
  (repeat' split) <;> simp

end Sys2Proof.Machine
end

