-- ==== Sys2Proof/Laws/Tables.lean ====
section
/-! SUPPORT. What a changed table or record reads as: the laws of the tables numbered from 1, of the records of
stations, queues, lanes, feeds and cameras kept in them, and of the state conditions. -/

namespace Sys2Proof.Machine

/-! ## Tables numbered from 1 -/

@[simp] theorem length_upd1 {α : Type} (l : List α) (i : Nat) (f : α → α) : (upd1 l i f).length = l.length := by
  cases i <;> simp [upd1]

/-- A changed table reads the change at its number, and every other number as before. -/
theorem nth1_upd1 {α : Type} [Inhabited α] (l : List α) (i j : Nat) (f : α → α) :
    nth1 (upd1 l i f) j = if j = i ∧ 1 ≤ i ∧ i ≤ l.length then f (nth1 l j) else nth1 l j := by
  cases i with
  | zero => simp [upd1]
  | succ i =>
    cases j with
    | zero => simp [nth1]
    | succ j =>
      simp only [nth1, upd1, List.getD_eq_getElem?_getD, List.getElem?_modify, Nat.add_right_cancel_iff]
      by_cases h : i = j
      · subst h
        by_cases hl : i < l.length
        · simp [hl, Nat.succ_le_of_lt hl]
        · simp [hl]
      · simp [h, Ne.symm h]

theorem nth1_upd1_self {α : Type} [Inhabited α] (l : List α) (i : Nat) (f : α → α) (h : 1 ≤ i)
    (hl : i ≤ l.length) : nth1 (upd1 l i f) i = f (nth1 l i) := by simp [nth1_upd1, h, hl]

theorem nth1_upd1_other {α : Type} [Inhabited α] (l : List α) (i j : Nat) (f : α → α) (h : j ≠ i) :
    nth1 (upd1 l i f) j = nth1 l j := by simp [nth1_upd1, h]

/-- Outside its numbers a table reads as the default record. -/
theorem nth1_default_of_not {α : Type} [Inhabited α] (l : List α) (i : Nat) (h : ¬ (1 ≤ i ∧ i ≤ l.length)) :
    nth1 l i = default := by
  cases i with
  | zero => rfl
  | succ i => simp [nth1, List.getD_eq_getElem?_getD, List.getElem?_eq_none (by omega : l.length ≤ i)]

/-! ## Records -/

theorem State.station_onStation (s : State) (i j : Nat) (f : Station → Station) :
    (s.onStation i f).station j =
      if j = i ∧ 1 ≤ i ∧ i ≤ s.pbc.stations.length then f (s.station j) else s.station j := nth1_upd1 ..

theorem State.queue_onQueue (s : State) (i j : Nat) (f : List Entry → List Entry) :
    (s.onQueue i f).queue j = if j = i ∧ 1 ≤ i ∧ i ≤ s.pdu.queues.length then f (s.queue j) else s.queue j :=
  nth1_upd1 ..

theorem State.lane_onLane (s : State) (i j : Nat) (f : Lane → Lane) :
    (s.onLane i f).lane j = if j = i ∧ 1 ≤ i ∧ i ≤ s.clu.lanes.length then f (s.lane j) else s.lane j :=
  nth1_upd1 ..

theorem State.feed_onFeed (s : State) (i j : Nat) (f : Feed → Feed) :
    (s.onFeed i f).feed j = if j = i ∧ 1 ≤ i ∧ i ≤ s.vu.feeds.length then f (s.feed j) else s.feed j :=
  nth1_upd1 ..

theorem State.cam_onCam (s : State) (c d : Podium) (f : Camera → Camera) :
    (s.onCam c f).vu.cam d = if d = c then f (s.vu.cam d) else s.vu.cam d := by cases c <;> cases d <;> rfl

@[simp] theorem State.onStation_stations_length (s : State) (i : Nat) (f : Station → Station) :
    (s.onStation i f).pbc.stations.length = s.pbc.stations.length := length_upd1 ..
@[simp] theorem State.onQueue_queues_length (s : State) (i : Nat) (f : List Entry → List Entry) :
    (s.onQueue i f).pdu.queues.length = s.pdu.queues.length := length_upd1 ..
@[simp] theorem State.onLane_lanes_length (s : State) (i : Nat) (f : Lane → Lane) :
    (s.onLane i f).clu.lanes.length = s.clu.lanes.length := length_upd1 ..
@[simp] theorem State.onFeed_feeds_length (s : State) (i : Nat) (f : Feed → Feed) :
    (s.onFeed i f).vu.feeds.length = s.vu.feeds.length := length_upd1 ..

@[simp] theorem State.onStation_queue (s : State) (i j : Nat) (f : Station → Station) :
    (s.onStation i f).queue j = s.queue j := rfl
@[simp] theorem State.onQueue_station (s : State) (i j : Nat) (f : List Entry → List Entry) :
    (s.onQueue i f).station j = s.station j := rfl

/-! ## Conditions -/

/-- Raising a notice changes no state condition. -/
@[simp] theorem raiseNotice_current (b : NoticeBody) (s : State) :
    (raiseNotice b s).lku.current = s.lku.current := by
  suffices h : ∀ (ls : List Link) (k : Lku), (ls.foldl (Lku.notify ⟨b, s.now⟩) k).current = k.current from
    h _ _
  intro ls
  induction ls with
  | nil => intro k; rfl
  | cons m ms ih =>
    intro k
    rw [List.foldl_cons, ih]
    cases m <;> rfl

/-- One link's taking of a notice clears no latched bit, no captured condition and nothing of a reception. -/
theorem Lku.notify_keeps (x : Notice) (k : Lku) (l j : Link) :
    (∀ n, k.latched.getLsbD n = true → (k.notify x l).latched.getLsbD n = true) ∧
    (∀ n, (k.link j).captured.getLsbD n = true → ((k.notify x l).link j).captured.getLsbD n = true) ∧
    ((k.notify x l).link j).run = (k.link j).run ∧ ((k.notify x l).link j).discarding = (k.link j).discarding ∧
    (k.notify x l).resetOwed = k.resetOwed := by
  have h : ∀ r : LinkRecord, (∀ n, r.captured.getLsbD n = true → (r.take x).captured.getLsbD n = true) ∧
      (r.take x).run = r.run ∧ (r.take x).discarding = r.discarding := by
    intro r; unfold LinkRecord.take; split <;> [simp; split] <;> [simp; split] <;> simp +contextual
  refine ⟨fun n hn => ?_, ?_⟩
  · simp only [Lku.notify]; split <;> simp [hn]
  · cases l <;> cases j <;>
      first
      | exact ⟨(h _).1, (h _).2.1, (h _).2.2, rfl⟩
      | exact ⟨fun _ h => h, rfl, rfl, rfl⟩

/-- Raising a notice clears no latched bit, no captured condition and nothing of a link's reception. -/
theorem raiseNotice_keeps (b : NoticeBody) (s : State) (j : Link) :
    (∀ n, s.lku.latched.getLsbD n = true → (raiseNotice b s).lku.latched.getLsbD n = true) ∧
    (∀ n, (s.lku.link j).captured.getLsbD n = true → ((raiseNotice b s).lku.link j).captured.getLsbD n = true) ∧
    ((raiseNotice b s).lku.link j).run = (s.lku.link j).run ∧
    ((raiseNotice b s).lku.link j).discarding = (s.lku.link j).discarding ∧
    (raiseNotice b s).lku.resetOwed = s.lku.resetOwed := by
  suffices h : ∀ (ls : List Link) (k : Lku),
      let t := ls.foldl (Lku.notify ⟨b, s.now⟩) k
      (∀ n, k.latched.getLsbD n = true → t.latched.getLsbD n = true) ∧
      (∀ n, (k.link j).captured.getLsbD n = true → (t.link j).captured.getLsbD n = true) ∧
      (t.link j).run = (k.link j).run ∧ (t.link j).discarding = (k.link j).discarding ∧
      t.resetOwed = k.resetOwed from h _ _
  intro ls
  induction ls with
  | nil => intro k; exact ⟨fun _ h => h, fun _ h => h, rfl, rfl, rfl⟩
  | cons m ms ih =>
    intro k
    obtain ⟨a, b', c, d, e⟩ := ih (k.notify ⟨b, s.now⟩ m)
    obtain ⟨a', b'', c', d', e'⟩ := Lku.notify_keeps ⟨b, s.now⟩ k m j
    exact ⟨fun n h => a n (a' n h), fun n h => b' n (b'' n h), c.trans c', d.trans d', e.trans e'⟩

@[simp] theorem raiseNotice_holds (b : NoticeBody) (s : State) (c : Cond) :
    (raiseNotice b s).holds c = s.holds c := by simp [State.holds]

/-- An event condition changes no state condition. -/
@[simp] theorem raiseEvent_holds (e c : Cond) (s : State) : (raiseEvent e s).holds c = s.holds c := by
  simp only [raiseEvent, raiseNotice_holds]; rfl

/-- Setting one state condition sets that one and no other. -/
@[simp] theorem setCondition_holds (c d : Cond) (v : Bool) (s : State) :
    (setCondition c v s).holds d = if d = c then v else s.holds d := by
  unfold setCondition
  split
  · rename_i h; split <;> simp_all
  · rw [raiseNotice_holds]
    cases v <;> cases c <;> cases d <;>
      simp [State.holds, State.onLku, Cond.id, Cond.bit]

end Sys2Proof.Machine
end

