-- ==== Sys2Proof/Laws/Closing.lean ====
section
/-! SUPPORT. What a closing does to the count of outstanding RESOLUTION entries and to the show state (R6, R7, R98,
R100): said once for one entry and once for a list of them, for the provers. -/

namespace Sys2Proof.Machine

/-- Nothing has closed. -/
theorem ResolutionsClosed.refl {s t : State} (hp : t.pdu.outstanding = s.pdu.outstanding) (hc : t.scu = s.scu) :
    ResolutionsClosed 0 s t := by
  simp [ResolutionsClosed, hp, hc]

/-- A closing reads and writes the count and the SCU alone. -/
theorem ResolutionsClosed.congr {n : Nat} {s s' t t' : State} (h : ResolutionsClosed n s t)
    (h1 : s'.pdu.outstanding = s.pdu.outstanding) (h2 : s'.scu = s.scu)
    (h3 : t'.pdu.outstanding = t.pdu.outstanding) (h4 : t'.scu = t.scu) : ResolutionsClosed n s' t' := by
  simpa only [ResolutionsClosed, h1, h2, h3, h4] using h

/-- Closings one after the other close what they close together. -/
theorem ResolutionsClosed.trans {n m : Nat} {s t u : State} (h : ResolutionsClosed n s t)
    (k : ResolutionsClosed m t u) : ResolutionsClosed (n + m) s u := by
  obtain ⟨h1, h2⟩ := h
  obtain ⟨k1, k2⟩ := k
  refine ⟨by omega, ?_⟩
  rw [k2, h2, h1]
  split <;> split <;> split <;> first | rfl | (simp_all; done) | (exfalso; simp_all; omega)

/-- One outstanding RESOLUTION entry fewer. -/
theorem decOutstanding_closed (s : State) : ResolutionsClosed 1 s (decOutstanding s) := by
  unfold ResolutionsClosed decOutstanding armedIfResolved
  by_cases h : s.pdu.outstanding ≤ 1 <;> by_cases k : s.scu.showState = .preparing <;>
    simp [h, k, Nat.sub_eq_zero_iff_le, setShow]

/-- A closed or superseded entry, whatever its origin. -/
theorem resolutionClosed_closed (e : Entry) (s : State) :
    ResolutionsClosed (resolutionsIn [e]) s (resolutionClosed e s) := by
  unfold resolutionClosed resolutionsIn
  by_cases h : e.origin = .resolution
  · simpa [h] using decOutstanding_closed s
  · simpa [h] using ResolutionsClosed.refl (s := s) rfl rfl

/-- The end of a closing, with its PATCH notice, from a state in which the count and the SCU are as at its start. -/
theorem raisePatch_resolutionClosed (e : Entry) (o : PatchOutcome) (s v : State)
    (h : v.pdu.outstanding = s.pdu.outstanding) (k : v.scu = s.scu) :
    ResolutionsClosed (resolutionsIn [e]) s (raisePatch e o (resolutionClosed e v)) :=
  (resolutionClosed_closed e v).congr h.symm k.symm (by simp) (by simp)

/-- An entry that closes as discarded. -/
theorem closeDiscarded_closed (e : Entry) (s : State) :
    ResolutionsClosed (resolutionsIn [e]) s (closeDiscarded s e) :=
  (resolutionClosed_closed e _).congr (by simp [removeEntry]) (by simp) rfl rfl

/-- Entries that close as discarded one after the other (R96, R98). -/
theorem foldl_closeDiscarded_closed (es : List Entry) (s : State) :
    ResolutionsClosed (resolutionsIn es) s (es.foldl closeDiscarded s) := by
  induction es generalizing s with
  | nil => exact .refl rfl rfl
  | cons e es ih =>
    have h := (closeDiscarded_closed e s).trans (ih (closeDiscarded s e))
    rwa [show resolutionsIn [e] + resolutionsIn es = resolutionsIn (e :: es) by
      simp only [resolutionsIn, ← List.length_append, ← List.filter_append, List.singleton_append]] at h

/-- A station's queue that closes as discarded (R98, R114). -/
theorem discardQueue_closed (st : Nat) (s : State) :
    ResolutionsClosed (resolutionsIn (s.queue st)) s (discardQueue st s) :=
  foldl_closeDiscarded_closed (s.queue st) s

/-- A failure of a station closes its queue when it is the third in a row of a JOINING or SUSPECT one, and else closes
nothing (R98, R116, R117). -/
theorem stationFailure_closed (st : Nat) (s : State) (h : 1 ≤ st) (k : st ≤ s.pbc.stations.length) :
    ResolutionsClosed
      (if ((s.station st).state = .joining ∨ (s.station st).state = .suspect) ∧ 2 ≤ (s.station st).streak then
        resolutionsIn (s.queue st)
      else 0) s (stationFailure st s) := by
  have told (v : State) (hp : v.pdu = s.pdu) (hc : v.scu = s.scu) : ResolutionsClosed (resolutionsIn (s.queue st)) s
      (raiseStation st .cut (stationCutCondition (discardQueue st v))) := by
    rw [show s.queue st = v.queue st by simp [State.queue, hp]]
    exact (discardQueue_closed st v).congr (by rw [hp]) (by rw [hc]) (by simp) (by simp)
  have cut (u : State) (hp : u.pdu = s.pdu) (hc : u.scu = s.scu) :
      ResolutionsClosed (resolutionsIn (s.queue st)) s (enterCut st u) := told _ hp hc
  have none_ {t : State} (h1 : t.pdu = s.pdu) (h2 : t.scu = s.scu) : ResolutionsClosed 0 s t := .refl (by rw [h1]) h2
  have streak (f : Station → Station) : (s.onStation st f).station st = f (s.station st) := by
    simp [State.station_onStation, h, k]
  cases hs : (s.station st).state
  case joining =>
    by_cases h2 : 2 ≤ (s.station st).streak
    · rw [if_pos ⟨.inl rfl, h2⟩]
      simp only [stationFailure, hs]
      rw [if_pos (by rw [streak]; exact Nat.succ_le_succ h2)]
      exact cut _ rfl rfl
    · rw [if_neg fun x => h2 x.2]
      simp only [stationFailure, hs]
      rw [if_neg (by rw [streak]; exact fun x => h2 (Nat.le_of_succ_le_succ x))]
      exact none_ rfl rfl
  case suspect =>
    by_cases h2 : 2 ≤ (s.station st).streak
    · rw [if_pos ⟨.inr rfl, h2⟩]
      simp only [stationFailure, hs]
      rw [if_pos (by rw [streak]; exact Nat.succ_le_succ h2)]
      exact cut _ rfl rfl
    · rw [if_neg fun x => h2 x.2]
      simp only [stationFailure, hs]
      rw [if_neg (by rw [streak]; exact fun x => h2 (Nat.le_of_succ_le_succ x))]
      exact none_ rfl rfl
  all_goals
    rw [if_neg (by simp)]
    simp only [stationFailure, hs]
    exact none_ (by simp) (by simp)

/-- An entry that closes as applied (R91). -/
theorem closeApplied_closed (e : Entry) (s : State) :
    ResolutionsClosed (resolutionsIn [e]) s (closeApplied e s) :=
  raisePatch_resolutionClosed e .applied s _ (by simp only [stationSuccess_frame]; rfl)
    (by simp only [stationSuccess_frame]; rfl)

/-- An entry that closes as failed, and, where its failure cuts the station, the rest of the queue with it (R94, R98,
R116, R117). -/
theorem closeFailed_closed (e : Entry) (s : State) (h : 1 ≤ e.station) (k : e.station ≤ s.pbc.stations.length)
    (q : e.station ≤ s.pdu.queues.length) :
    ResolutionsClosed
      ((if ((s.station e.station).state = .joining ∨ (s.station e.station).state = .suspect) ∧
          2 ≤ (s.station e.station).streak then resolutionsIn ((s.queue e.station).erase e) else 0) +
        resolutionsIn [e]) s (closeFailed e s) := by
  have f := stationFailure_closed e.station
    (raiseEvent .patchFail ((removeEntry e s).onClosures e.station fun c => { c with failed := c.failed + 1 })) h
    (by simpa [removeEntry] using k)
  have hs : (raiseEvent .patchFail ((removeEntry e s).onClosures e.station fun c =>
      { c with failed := c.failed + 1 })).station e.station = s.station e.station := by
    simp [State.station, removeEntry]
  have hq : (raiseEvent .patchFail ((removeEntry e s).onClosures e.station fun c =>
      { c with failed := c.failed + 1 })).queue e.station = (s.queue e.station).erase e := by
    have := State.queue_onQueue s e.station e.station fun q => q.erase e
    rw [if_pos ⟨rfl, h, q⟩] at this
    simpa [State.queue, removeEntry, State.onQueue, State.onClosures, State.onPdu] using this
  rw [hs, hq] at f
  have g := f.trans (resolutionClosed_closed e _)
  unfold closeFailed
  refine g.congr ?_ ?_ ?_ ?_
  · simp [removeEntry]
  · simp [removeEntry]
  · simp only [raisePatch_frame]
  · simp only [raisePatch_frame]

end Sys2Proof.Machine
end

