-- ==== Sys2Proof/Laws/PerInstr.lean ====
section
/-! SUPPORT. The per-command family `Code`: the request code and payload of a command, and the request that the
Link Unit reads from them, are the command's own (R186). One lemma per constructor of `Instr`. -/

namespace Sys2Proof.Laws

open Sys2Proof.Machine

/-- A command that has a request code is the request its code and payload name, its code is one of R186, and
a command without one carries no payload of a request. -/
def Code.Statement (i : Instr) : Prop :=
  match codeOf i with
  | some c => c ∈ requestCodes ∧ ∃ l p, payloadOf i = some (l, p) ∧ requestOf l c p = some i
  | none => payloadOf i = none

theorem Code.go (l : Link) (p : List Byte) : Code.Statement (.go l p) := ⟨by decide, l, p, rfl, rfl⟩
theorem Code.standby (l : Link) (p : List Byte) : Code.Statement (.standby l p) := ⟨by decide, l, p, rfl, rfl⟩
theorem Code.release (l : Link) (p : List Byte) : Code.Statement (.release l p) := ⟨by decide, l, p, rfl, rfl⟩
theorem Code.arm (l : Link) (p : List Byte) : Code.Statement (.arm l p) := ⟨by decide, l, p, rfl, rfl⟩
theorem Code.stop (l : Link) (p : List Byte) : Code.Statement (.stop l p) := ⟨by decide, l, p, rfl, rfl⟩
theorem Code.count (l : Link) (p : List Byte) : Code.Statement (.count l p) := ⟨by decide, l, p, rfl, rfl⟩
theorem Code.restartAt (l : Link) (p : List Byte) : Code.Statement (.restartAt l p) := ⟨by decide, l, p, rfl, rfl⟩
theorem Code.vampExit (l : Link) (p : List Byte) : Code.Statement (.vampExit l p) := ⟨by decide, l, p, rfl, rfl⟩
theorem Code.tempo (l : Link) (p : List Byte) : Code.Statement (.tempo l p) := ⟨by decide, l, p, rfl, rfl⟩
theorem Code.handover (l : Link) (p : List Byte) : Code.Statement (.handover l p) := ⟨by decide, l, p, rfl, rfl⟩
theorem Code.ackPanic (l : Link) (p : List Byte) : Code.Statement (.ackPanic l p) := ⟨by decide, l, p, rfl, rfl⟩
theorem Code.ackPanicAll (l : Link) (p : List Byte) : Code.Statement (.ackPanicAll l p) := ⟨by decide, l, p, rfl, rfl⟩
theorem Code.writeSong (l : Link) (p : List Byte) : Code.Statement (.writeSong l p) := ⟨by decide, l, p, rfl, rfl⟩
theorem Code.deleteSong (l : Link) (p : List Byte) : Code.Statement (.deleteSong l p) := ⟨by decide, l, p, rfl, rfl⟩
theorem Code.writePattern (l : Link) (p : List Byte) : Code.Statement (.writePattern l p) := ⟨by decide, l, p, rfl, rfl⟩
theorem Code.writeCue (l : Link) (p : List Byte) : Code.Statement (.writeCue l p) := ⟨by decide, l, p, rfl, rfl⟩
theorem Code.deleteCue (l : Link) (p : List Byte) : Code.Statement (.deleteCue l p) := ⟨by decide, l, p, rfl, rfl⟩
theorem Code.writeRoster (l : Link) (p : List Byte) : Code.Statement (.writeRoster l p) := ⟨by decide, l, p, rfl, rfl⟩
theorem Code.writeLaneBase (l : Link) (p : List Byte) : Code.Statement (.writeLaneBase l p) := ⟨by decide, l, p, rfl, rfl⟩
theorem Code.writeFeedBase (l : Link) (p : List Byte) : Code.Statement (.writeFeedBase l p) := ⟨by decide, l, p, rfl, rfl⟩
theorem Code.seal (l : Link) (p : List Byte) : Code.Statement (.seal l p) := ⟨by decide, l, p, rfl, rfl⟩
theorem Code.lock (l : Link) (p : List Byte) : Code.Statement (.lock l p) := ⟨by decide, l, p, rfl, rfl⟩
theorem Code.unlock (l : Link) (p : List Byte) : Code.Statement (.unlock l p) := ⟨by decide, l, p, rfl, rfl⟩
theorem Code.resetShow (l : Link) (p : List Byte) : Code.Statement (.resetShow l p) := ⟨by decide, l, p, rfl, rfl⟩
theorem Code.reboot (l : Link) (p : List Byte) : Code.Statement (.reboot l p) := ⟨by decide, l, p, rfl, rfl⟩
theorem Code.setEstimator (l : Link) (p : List Byte) : Code.Statement (.setEstimator l p) := ⟨by decide, l, p, rfl, rfl⟩
theorem Code.setDispatch (l : Link) (p : List Byte) : Code.Statement (.setDispatch l p) := ⟨by decide, l, p, rfl, rfl⟩
theorem Code.setProbe (l : Link) (p : List Byte) : Code.Statement (.setProbe l p) := ⟨by decide, l, p, rfl, rfl⟩
theorem Code.setFeedMeasure (l : Link) (p : List Byte) : Code.Statement (.setFeedMeasure l p) := ⟨by decide, l, p, rfl, rfl⟩
theorem Code.setLane (l : Link) (p : List Byte) : Code.Statement (.setLane l p) := ⟨by decide, l, p, rfl, rfl⟩
theorem Code.setFeed (l : Link) (p : List Byte) : Code.Statement (.setFeed l p) := ⟨by decide, l, p, rfl, rfl⟩
theorem Code.clearStatus (l : Link) (p : List Byte) : Code.Statement (.clearStatus l p) := ⟨by decide, l, p, rfl, rfl⟩
theorem Code.setMasks (l : Link) (p : List Byte) : Code.Statement (.setMasks l p) := ⟨by decide, l, p, rfl, rfl⟩
theorem Code.forceE (l : Link) (p : List Byte) : Code.Statement (.forceE l p) := ⟨by decide, l, p, rfl, rfl⟩
theorem Code.forceW (l : Link) (p : List Byte) : Code.Statement (.forceW l p) := ⟨by decide, l, p, rfl, rfl⟩
theorem Code.readShow (l : Link) (p : List Byte) : Code.Statement (.readShow l p) := ⟨by decide, l, p, rfl, rfl⟩
theorem Code.readStop (l : Link) (p : List Byte) : Code.Statement (.readStop l p) := ⟨by decide, l, p, rfl, rfl⟩
theorem Code.readSong (l : Link) (p : List Byte) : Code.Statement (.readSong l p) := ⟨by decide, l, p, rfl, rfl⟩
theorem Code.readPattern (l : Link) (p : List Byte) : Code.Statement (.readPattern l p) := ⟨by decide, l, p, rfl, rfl⟩
theorem Code.readStoreSpace (l : Link) (p : List Byte) : Code.Statement (.readStoreSpace l p) := ⟨by decide, l, p, rfl, rfl⟩
theorem Code.readCue (l : Link) (p : List Byte) : Code.Statement (.readCue l p) := ⟨by decide, l, p, rfl, rfl⟩
theorem Code.readCues (l : Link) (p : List Byte) : Code.Statement (.readCues l p) := ⟨by decide, l, p, rfl, rfl⟩
theorem Code.readRoster (l : Link) (p : List Byte) : Code.Statement (.readRoster l p) := ⟨by decide, l, p, rfl, rfl⟩
theorem Code.readLaneBase (l : Link) (p : List Byte) : Code.Statement (.readLaneBase l p) := ⟨by decide, l, p, rfl, rfl⟩
theorem Code.readFeedBase (l : Link) (p : List Byte) : Code.Statement (.readFeedBase l p) := ⟨by decide, l, p, rfl, rfl⟩
theorem Code.readTempo (l : Link) (p : List Byte) : Code.Statement (.readTempo l p) := ⟨by decide, l, p, rfl, rfl⟩
theorem Code.readEstimator (l : Link) (p : List Byte) : Code.Statement (.readEstimator l p) := ⟨by decide, l, p, rfl, rfl⟩
theorem Code.readCaptureLog (l : Link) (p : List Byte) : Code.Statement (.readCaptureLog l p) := ⟨by decide, l, p, rfl, rfl⟩
theorem Code.readDispatch (l : Link) (p : List Byte) : Code.Statement (.readDispatch l p) := ⟨by decide, l, p, rfl, rfl⟩
theorem Code.readStation (l : Link) (p : List Byte) : Code.Statement (.readStation l p) := ⟨by decide, l, p, rfl, rfl⟩
theorem Code.readBus (l : Link) (p : List Byte) : Code.Statement (.readBus l p) := ⟨by decide, l, p, rfl, rfl⟩
theorem Code.readLane (l : Link) (p : List Byte) : Code.Statement (.readLane l p) := ⟨by decide, l, p, rfl, rfl⟩
theorem Code.readLanes (l : Link) (p : List Byte) : Code.Statement (.readLanes l p) := ⟨by decide, l, p, rfl, rfl⟩
theorem Code.readVideo (l : Link) (p : List Byte) : Code.Statement (.readVideo l p) := ⟨by decide, l, p, rfl, rfl⟩
theorem Code.readStatus (l : Link) (p : List Byte) : Code.Statement (.readStatus l p) := ⟨by decide, l, p, rfl, rfl⟩
theorem Code.readSeal (l : Link) (p : List Byte) : Code.Statement (.readSeal l p) := ⟨by decide, l, p, rfl, rfl⟩
theorem Code.unknownRequest (l : Link) (code : Byte) (p : List Byte) : Code.Statement (.unknownRequest l code p) := rfl
theorem Code.runFrame (l : Link) (code : Byte) (p : List Byte) : Code.Statement (.runFrame l code p) := rfl
theorem Code.badFrame (l : Link) : Code.Statement (.badFrame l) := rfl
theorem Code.frameGapTimeout (l : Link) : Code.Statement (.frameGapTimeout l) := rfl
theorem Code.framingErrorJudge (l : Link) : Code.Statement (.framingErrorJudge l) := rfl
theorem Code.linkBreak (l : Link) : Code.Statement (.linkBreak l) := rfl
theorem Code.responseSend (l : Link) : Code.Statement (.responseSend l) := rfl
theorem Code.noticeSend (l : Link) : Code.Statement (.noticeSend l) := rfl
theorem Code.powerOn : Code.Statement .powerOn := rfl
theorem Code.resetPin : Code.Statement .resetPin := rfl
theorem Code.rebootTakesEffect : Code.Statement .rebootTakesEffect := rfl
theorem Code.broadcastPoll : Code.Statement .broadcastPoll := rfl
theorem Code.beatEdge (line : Podium) : Code.Statement (.beatEdge line) := rfl
theorem Code.gridBeat : Code.Statement .gridBeat := rfl
theorem Code.missCheck : Code.Statement .missCheck := rfl
theorem Code.positionalFiring : Code.Statement .positionalFiring := rfl
theorem Code.landRecompute : Code.Statement .landRecompute := rfl
theorem Code.entrySendable (station : Nat) (rivals : List Nat) : Code.Statement (.entrySendable station rivals) := rfl
theorem Code.busFree (rivals : List Nat) : Code.Statement (.busFree rivals) := rfl
theorem Code.probeDue (station : Nat) (rivals : List Nat) : Code.Statement (.probeDue station rivals) := rfl
theorem Code.recoveryPollDue (station : Nat) (rivals : List Nat) : Code.Statement (.recoveryPollDue station rivals) := rfl
theorem Code.ack (station tally : Nat) : Code.Statement (.ack station tally) := rfl
theorem Code.nak (station tally : Nat) : Code.Statement (.nak station tally) := rfl
theorem Code.probeReply (station tally t2 t3 t4 : Nat) : Code.Statement (.probeReply station tally t2 t3 t4) := rfl
theorem Code.pollReply (station tally : Nat) (report : Option Report) : Code.Statement (.pollReply station tally report) := rfl
theorem Code.noReply : Code.Statement .noReply := rfl
theorem Code.attention (station tally : Nat) (report : Report) : Code.Statement (.attention station tally report) := rfl
theorem Code.damagedFrame : Code.Statement .damagedFrame := rfl
theorem Code.unexpectedFrame : Code.Statement .unexpectedFrame := rfl
theorem Code.doneReport : Code.Statement .doneReport := rfl
theorem Code.faultReport : Code.Statement .faultReport := rfl
theorem Code.panicReport : Code.Statement .panicReport := rfl
theorem Code.joinReport : Code.Statement .joinReport := rfl
theorem Code.doneDeadline (station : Nat) : Code.Statement (.doneDeadline station) := rfl
theorem Code.clickSchedule : Code.Statement .clickSchedule := rfl
theorem Code.clickSound (lane : Nat) : Code.Statement (.clickSound lane) := rfl
theorem Code.burstEnd (lane : Nat) : Code.Statement (.burstEnd lane) := rfl
theorem Code.beatFlash : Code.Statement .beatFlash := rfl
theorem Code.cameraFrameStart (cam : Podium) : Code.Statement (.cameraFrameStart cam) := rfl
theorem Code.cameraCut (cam : Podium) : Code.Statement (.cameraCut cam) := rfl
theorem Code.feedFrame (feed : Nat) : Code.Statement (.feedFrame feed) := rfl
theorem Code.feedEcho (feed : Nat) : Code.Statement (.feedEcho feed) := rfl
theorem Code.lineChange (line : StopLine) (active : Bool) : Code.Statement (.lineChange line active) := rfl
theorem Code.lineSettle (line : StopLine) : Code.Statement (.lineSettle line) := rfl
theorem Code.tmuHoldEntry : Code.Statement .tmuHoldEntry := rfl
theorem Code.cluHoldEntry : Code.Statement .cluHoldEntry := rfl
theorem Code.pduHoldEntry : Code.Statement .pduHoldEntry := rfl
theorem Code.cueHoldEntry : Code.Statement .cueHoldEntry := rfl
theorem Code.vuHoldEntry : Code.Statement .vuHoldEntry := rfl
theorem Code.backgroundPassEnd : Code.Statement .backgroundPassEnd := rfl
theorem Code.storageFault (part : StorePart) (offset : Nat) (value : Byte) : Code.Statement (.storageFault part offset value) := rfl
theorem Code.byteInHunt (l : Link) (b : Byte) : Code.Statement (.byteInHunt l b) := rfl
theorem Code.discardingRunFrame (l : Link) (code : Byte) (last : Bool) : Code.Statement (.discardingRunFrame l code last) := rfl
theorem Code.heldInReset : Code.Statement .heldInReset := rfl
theorem Code.tmuShowReset : Code.Statement .tmuShowReset := rfl
theorem Code.cueShowReset : Code.Statement .cueShowReset := rfl
theorem Code.pduShowReset : Code.Statement .pduShowReset := rfl
theorem Code.vuShowReset : Code.Statement .vuShowReset := rfl
theorem Code.showTimeBaseSaturates : Code.Statement .showTimeBaseSaturates := rfl

end Sys2Proof.Laws
end

