-- ==== Sys2Proof/Laws/Requests.lean ====
section
/-! SUPPORT. What a completed request of a master link comes to, once for every request: its owner's answer on
the part as `taken` leaves it, or the refusal of R176's steps. -/

namespace Sys2Proof.Machine

/-- A command of a part that is not held in reset runs. -/
@[simp] theorem live_next (f : State → State) (s : State) (h : s.inReset = false) : live f s = .next (f s) := by
  simp [live, h]

/-- A command of a part held in reset is passed over. -/
@[simp] theorem live_reset (f : State → State) (s : State) (h : s.inReset = true) : live f s = .next s := by
  simp [live, h]

/-- Two changes of one link's record are one. -/
theorem State.onLink_onLink (s : State) (l : Link) (f g : LinkRecord → LinkRecord) :
    (s.onLink l f).onLink l g = s.onLink l (g ∘ f) := by cases l <;> rfl

/-- A change that keeps a link's record keeps the part. -/
theorem State.onLink_eq (s : State) (l : Link) (f : LinkRecord → LinkRecord) (h : f (s.lku.link l) = s.lku.link l) :
    s.onLink l f = s := by
  cases l <;> (simp only [Lku.link] at h; simp [State.onLink, State.onLku, Lku.onLink, h])

/-- Changes that agree on a link's record agree on the part. -/
theorem State.onLink_congr (s : State) (l : Link) (f g : LinkRecord → LinkRecord)
    (h : f (s.lku.link l) = g (s.lku.link l)) : s.onLink l f = s.onLink l g := by
  cases l <;> (simp only [Lku.link] at h; simp [State.onLink, State.onLku, Lku.onLink, h])

/-- The frame that completes a request leaves the link in HUNT with no run and no discard, and the request's
whole payload (R172, R175). -/
theorem arrive_completes {l : Link} {c : Nat} {p whole : List Byte} {s : State} (h : Completes l c p whole s) :
    arrive l (BitVec.ofNat 8 c) false p s =
      (s.onLink l fun r => { r with recv := .hunt, run := none, discarding := none }, some whole) := by
  obtain ⟨-, -, hs, h⟩ := h
  have hs : settleReset l s = s := by
    unfold settleReset finishReset settled at *; split <;> simp_all
  unfold arrive
  rw [hs]
  split at h
  · rename_i hd hr
    subst h
    simp [hd, hr, openOrWhole]
    exact State.onLink_congr _ _ _ _ (by simp [hd, hr])
  · rename_i x hd hr
    obtain ⟨hc, rfl, hl⟩ := h
    have hl' : ¬ Config.runMax < (x.bytes ++ p).length := by simpa [Config.runMax] using hl
    simp [hd, hr, hc, extendRun, State.onLink_onLink]
    rw [if_neg (by simpa using hl')]
    simp only [Prod.mk.injEq, and_true]
    exact State.onLink_congr _ _ _ _ (by simp [hd])
  · rename_i d hd hr
    obtain ⟨hc, rfl⟩ := h
    simp [hd, hc, openOrWhole, State.onLink_onLink]
    exact State.onLink_congr _ _ _ _ (by simp [hr])
  · exact h.elim

theorem State.isFull_onLink (s : State) (l : Link) (f : LinkRecord → LinkRecord)
    (h : (f (s.lku.link l)).responses = (s.lku.link l).responses) : (s.onLink l f).isFull l = s.isFull l := by
  simp [State.isFull, h]

/-- A completed request is judged by R176's steps 3 to 6 on the part as `taken` leaves it. -/
theorem requestWith_completes {α : Type} {l : Link} {c : Nat} {p whole : List Byte} {s : State}
    (h : Completes l c p whole s) (reboots : Bool) (rights : Link → Bool) (parse : List Byte → Option α)
    (owner : α → State → Answer) :
    requestWith reboots l c rights parse owner p s =
      if rights l = false then
        answer l c .refusedRight [] ((taken l s).onLink l fun r => { r with refusals := satInc r.refusals })
      else
        match parse whole with
        | none => answer l c .range [] (taken l s)
        | some a =>
          respond l (BitVec.ofNat 8 c) (owner a (taken l s)).2.1 (owner a (taken l s)).2.2 reboots
            (owner a (taken l s)).1 := by
  have room : s.isFull l = false := by
    have := h.2.1
    exact decide_eq_false (Nat.not_le.mpr this)
  have full : (s.onLink l fun r => { r with recv := .hunt, run := none, discarding := none }).isFull l = false := by
    rw [State.isFull_onLink _ _ _ rfl]; exact room
  have take : ((s.onLink l fun r => { r with recv := .hunt, run := none, discarding := none }).onLink l
      fun r => { r with requests := r.requests + 1 }) = taken l s := State.onLink_onLink ..
  simp only [requestWith, completed, arrive_completes h, judge]
  rw [full, take, if_neg Bool.false_ne_true]
  rfl

/-- A completed request with the right to its link and a payload its owner reads is answered as the owner says. -/
theorem requestWith_answered {α : Type} {l : Link} {c : Nat} {p whole : List Byte} {s : State}
    (h : Completes l c p whole s) {reboots : Bool} {rights : Link → Bool} {parse : List Byte → Option α}
    {owner : α → State → Answer} {a : α} (hr : rights l = true) (ha : parse whole = some a) :
    requestWith reboots l c rights parse owner p s =
      respond l (BitVec.ofNat 8 c) (owner a (taken l s)).2.1 (owner a (taken l s)).2.2 reboots
        (owner a (taken l s)).1 := by
  simp [requestWith_completes h, hr, ha]

/-- Forming a response changes nothing but its link's record. -/
@[simp] theorem respond_frame (l : Link) (c : Byte) (r : Result) (d : List Byte) (b : Bool) (s : State) :
    (respond l c r d b s).now = s.now ∧ (respond l c r d b s).inReset = s.inReset ∧
    (respond l c r d b s).scu = s.scu ∧ (respond l c r d b s).tmu = s.tmu ∧
    (respond l c r d b s).store = s.store ∧ (respond l c r d b s).cue = s.cue ∧
    (respond l c r d b s).pdu = s.pdu ∧ (respond l c r d b s).pbc = s.pbc ∧
    (respond l c r d b s).clu = s.clu ∧ (respond l c r d b s).vu = s.vu ∧
    (respond l c r d b s).freeIdx = s.freeIdx ∧ (respond l c r d b s).pending = s.pending ∧
    (respond l c r d b s).lku.current = s.lku.current ∧ (respond l c r d b s).lku.latched = s.lku.latched := by
  cases l <;> exact ⟨rfl, rfl, rfl, rfl, rfl, rfl, rfl, rfl, rfl, rfl, rfl, rfl, rfl, rfl⟩

/-- Taking a request changes nothing but its link's record. -/
@[simp] theorem taken_frame (l : Link) (s : State) :
    (taken l s).now = s.now ∧ (taken l s).inReset = s.inReset ∧ (taken l s).scu = s.scu ∧
    (taken l s).tmu = s.tmu ∧ (taken l s).store = s.store ∧ (taken l s).cue = s.cue ∧
    (taken l s).pdu = s.pdu ∧ (taken l s).pbc = s.pbc ∧ (taken l s).clu = s.clu ∧ (taken l s).vu = s.vu ∧
    (taken l s).freeIdx = s.freeIdx ∧ (taken l s).pending = s.pending ∧
    (taken l s).lku.current = s.lku.current ∧ (taken l s).lku.latched = s.lku.latched := by
  cases l <;> exact ⟨rfl, rfl, rfl, rfl, rfl, rfl, rfl, rfl, rfl, rfl, rfl, rfl, rfl, rfl⟩

/-- Taking a request keeps the responses that wait. -/
@[simp] theorem taken_responses (l m : Link) (s : State) :
    ((taken l s).lku.link m).responses = (s.lku.link m).responses := by
  cases l <;> cases m <;> rfl

/-- A response formed on a part that waits with the same responses, at the same time, is the answer. -/
theorem respond_answered (l : Link) (c : Nat) (r : Result) (d : List Byte) (b : Bool) (s t : State)
    (hr : (t.lku.link l).responses = (s.lku.link l).responses) (hn : t.now = s.now) :
    Answered l c r d s (respond l (BitVec.ofNat 8 c) r d b t) := by
  cases l <;> exact ⟨_, congrArg (· ++ [_]) hr, rfl, rfl, rfl, hn, rfl⟩

end Sys2Proof.Machine
end

