-- ==== Sys2Proof/Tests/Slice0.lean ====
section
/-! SUPPORT. Tests: terms that WellFormed refuses, the manual's worked cases one step at a time (each test names
its chapter), and for each statement with hypotheses a state and operands that meet them. -/

namespace Sys2Proof.Tests

open Sys2Proof Sys2Proof.Machine

-- The tests are checked one after another: a thread for each would take too much memory.
set_option Elab.async false

/-- The state after a command; the state before where there is none. -/
def after (i : Instr) (s : State) : State :=
  match exec i s with
  | .next t => t
  | _ => s

/-! ## WellFormed: one ill-formed term for each check -/

theorem test_wf_refuses_listed_code_as_unknown : (Instr.unknownRequest .rig 5 []).wf = false := by decide
theorem test_wf_refuses_long_unknown_payload :
    (Instr.unknownRequest .rig 200 (List.replicate 241 0)).wf = false := by decide +kernel
theorem test_wf_refuses_long_run_payload :
    (Instr.runFrame .rig 16 (List.replicate 241 0)).wf = false := by decide +kernel
theorem test_wf_refuses_long_request_payload :
    (Instr.writeSong .rig (List.replicate 241 0)).wf = false := by decide +kernel
theorem test_wf_refuses_entry_of_station_0 : (Instr.entrySendable 0 []).wf = false := by decide
theorem test_wf_refuses_entry_rival_15 : (Instr.entrySendable 1 [15]).wf = false := by decide
theorem test_wf_refuses_bus_rival_0 : (Instr.busFree [0]).wf = false := by decide
theorem test_wf_refuses_probe_of_station_15 : (Instr.probeDue 15 []).wf = false := by decide
theorem test_wf_refuses_probe_rival_15 : (Instr.probeDue 1 [15]).wf = false := by decide
theorem test_wf_refuses_recovery_of_station_0 : (Instr.recoveryPollDue 0 []).wf = false := by decide
theorem test_wf_refuses_recovery_rival_0 : (Instr.recoveryPollDue 1 [0]).wf = false := by decide
theorem test_wf_refuses_ack_station_15 : (Instr.ack 15 0).wf = false := by decide
theorem test_wf_refuses_ack_tally_256 : (Instr.ack 1 256).wf = false := by decide
theorem test_wf_refuses_nak_station_0 : (Instr.nak 0 0).wf = false := by decide
theorem test_wf_refuses_nak_tally_256 : (Instr.nak 1 256).wf = false := by decide
theorem test_wf_refuses_probe_reply_station_0 : (Instr.probeReply 0 0 0 0 0).wf = false := by decide
theorem test_wf_refuses_probe_reply_tally : (Instr.probeReply 1 256 0 0 0).wf = false := by decide
theorem test_wf_refuses_probe_reply_t2 : (Instr.probeReply 1 0 4294967296 0 0).wf = false := by decide
theorem test_wf_refuses_probe_reply_t3 : (Instr.probeReply 1 0 0 4294967296 0).wf = false := by decide
theorem test_wf_refuses_probe_reply_t4 :
    (Instr.probeReply 1 0 0 0 281474976710656).wf = false := by decide
theorem test_wf_refuses_poll_reply_station : (Instr.pollReply 15 0 none).wf = false := by decide
theorem test_wf_refuses_poll_reply_tally : (Instr.pollReply 1 256 none).wf = false := by decide
theorem test_wf_refuses_poll_reply_report :
    (Instr.pollReply 1 0 (some (.done 256 0))).wf = false := by decide
theorem test_wf_refuses_attention_station : (Instr.attention 0 0 (.panic 1)).wf = false := by decide
theorem test_wf_refuses_attention_tally : (Instr.attention 1 256 (.panic 1)).wf = false := by decide
theorem test_wf_refuses_attention_patch : (Instr.attention 1 0 (.fault 0 65536)).wf = false := by decide
theorem test_wf_refuses_attention_player : (Instr.attention 1 0 (.panic 256)).wf = false := by decide
theorem test_wf_refuses_attention_lead : (Instr.attention 1 0 (.join 16777216)).wf = false := by decide
theorem test_wf_refuses_deadline_of_station_15 : (Instr.doneDeadline 15).wf = false := by decide
theorem test_wf_refuses_click_of_lane_17 : (Instr.clickSound 17).wf = false := by decide
theorem test_wf_refuses_burst_of_lane_0 : (Instr.burstEnd 0).wf = false := by decide
theorem test_wf_refuses_frame_of_feed_7 : (Instr.feedFrame 7).wf = false := by decide
theorem test_wf_refuses_echo_of_feed_0 : (Instr.feedEcho 0).wf = false := by decide
theorem test_wf_refuses_fault_in_song_65 : (Instr.storageFault (.song 65) 0 0).wf = false := by decide
theorem test_wf_refuses_fault_in_pattern_16 : (Instr.storageFault (.pattern 16) 0 0).wf = false := by decide
theorem test_wf_refuses_fault_in_cue_0 : (Instr.storageFault (.cue 0) 0 0).wf = false := by decide
theorem test_wf_refuses_fault_in_lane_17 : (Instr.storageFault (.lane 17) 0 0).wf = false := by decide
theorem test_wf_refuses_fault_in_feed_7 : (Instr.storageFault (.feed 7) 0 0).wf = false := by decide

/-! ## Words and frames -/

/-- No row of the opcode table gives bits, so no word spells a command. -/
theorem test_no_word_spells_a_command : decodeTableWord 8 5 = none := rfl

/-- The published check value of a CRC-8 of polynomial 0x2F and seed 0xFF, taken without the inversion that
R102 leaves out. -/
theorem test_crc8_check : crc8 [0x31, 0x32, 0x33, 0x34, 0x35, 0x36, 0x37, 0x38, 0x39] = 0x20 := by
  decide +kernel

/-- The published check value of a CRC-16 of polynomial 0x1021 and seed 0xFFFF, not reflected (R188). -/
theorem test_crc16_check : crc16 [0x31, 0x32, 0x33, 0x34, 0x35, 0x36, 0x37, 0x38, 0x39] = 0x29B1 := by
  decide +kernel

/-- R184, R186: after SYNC, a STOP request is the kind byte 1, code 5, length 0 and the CRC-8
(worked by hand). -/
theorem test_stop_frame_is_read : linkCommand .podium [0x01, 5, 0, 0x5b] = .stop .podium [] := by
  decide +kernel

/-- R185: an ACK from station 6, kind code 8 with one body byte, its loss tally, and
the CRC-8 (worked by hand). -/
theorem test_ack_frame_is_read :
    busCommand 6 true [0x81, 3, 0x27] 0 = .ack 6 3 := by decide +kernel

/-! ## Small states -/

/-- A segment of a chart. -/
def seg (first bars meter pattern : Nat) (fixed : Option Nat) (vamp : Bool) : Segment :=
  ⟨first, bars, meter, pattern, fixed, 300000, 1000000, vamp⟩

/-- Song 12 of the worked sequences: a FOLLOW segment of bars 40-55 in meter 4, two count bars, segue song 13. -/
def song12 : Song :=
  ⟨12, [seg 1 39 4 2 none false, seg 40 16 4 2 none false, seg 56 41 4 2 none false], 2, some 13,
    [⟨3, 0, 100⟩, ⟨3, 1, 200⟩, ⟨9, 0, 39⟩, ⟨5, 2, 7⟩]⟩

/-- Song 5 of ch. 2: a vamp of bars 9-10 in meter 3, FIXED at 600,000 µs, between two FOLLOW segments. -/
def song5 : Song :=
  ⟨5, [⟨1, 8, 4, 2, none, 400000, 700000, false⟩, ⟨9, 2, 3, 5, some 600000, 400000, 700000, true⟩,
    ⟨11, 10, 4, 2, none, 400000, 700000, false⟩], 0, none, []⟩

/-- The part with songs 5 and 12 stored, at a time. -/
def stored (t : Nat) : State :=
  { State.reset with
    now := t
    pbc := { (default : Pbc) with broadcastDue := false }
    store := { (default : Store) with
      songs := (State.reset.store.songs.set 4 (some song5)).set 11 (some song12) } }

/-- A show state and place on the stored part. -/
def at_ (x : ShowState) (song : Nat) (bar : Int) (beat segment pass : Nat) (s : State) : State :=
  s.onScu fun c =>
    { c with showState := x, position := ⟨some ⟨song, bar, beat, segment⟩, pass, false, 0⟩ }

/-- A grid: the tempo state, the period and the next grid beat. -/
def grid (x : TempoState) (p next : Nat) (s : State) : State :=
  s.onTmu fun t =>
    { t with
      tempo := x, p16 := 16 * p, nextBeat := some next, pmin := 300000, pmax := 1000000
      pendingMark := if x = .tracking ∨ x = .flywheel then some .opened else none
      emitted := [⟨next - p, none, none⟩] }

/-- TRACKING with the last grid beat matched at a stamp. -/
def tracking (p next prev : Nat) (t : Nat) : State :=
  (grid .tracking p next (stored t)).onTmu fun k =>
    { k with emitted := [⟨next - p, some .matched, none⟩], prevMatched := some prev }

/-- A station READY in the roster with its lead, delay and offset. -/
def station (n lead delay : Nat) (offset : Int) (s : State) : State :=
  (s.onStore fun t => { t with roster := [3, 5, 6, 9, 14] }).onStation n fun r =>
    { r with state := .ready, lead := lead, delay := delay, offset := some offset }

/-- The cues of ch. 4's resolution that set station 9 layer 0 or follow in the list. -/
def cue (id : Nat) (kind : CueKind) (actions : List Action) : CueEntry := ⟨⟨id, 12, kind, actions⟩, none, false⟩

/-! ## Show state and charts (ch. 1, ch. 2) -/

/-- Ch. 1: COUNT at 20,000,000 for 20,030,000 starts at 20,050,000, CLAMPED, at bar -2. -/
theorem test_count_clamps_start_time :
    let s := { at_ .armed 12 47 1 1 1 (stored 20000000) with pending := [] }
    let t := after (.count .podium (1 :: be 6 20030000)) (s.onScu fun c => { c with armed := some (12, 47) })
    t.tmu.nextBeat = some 20050000 ∧ t.scu.showState = .countIn ∧ t.tmu.tempo = .fixed ∧
      t.scu.position = ⟨some ⟨12, -2, 1, 1⟩, 1, false, 2⟩ ∧
      t.lku.podium.responses.map Response.result = [.clamped] := by decide +kernel

/-- R48: at COUNT into TRACKING the earlier grid's last beat is opened with its miss check 250,000 later, where that is
still to come, and its check is a missed beat (worked by hand). -/
theorem test_count_opens_the_last_beat :
    let s (b : Nat) : State := ((at_ .armed 5 1 1 0 1 (stored 20100000)).onScu fun c =>
      { c with armed := some (5, 1) }).onTmu fun t => { t with p16 := 8000000, prior := some ⟨b, none, none⟩ }
    let t (b : Nat) : State := after (.count .podium [0]) (s b)
    let u := after .missCheck ((t 20000000).setNow 20250000)
    (t 20000000).tmu.tempo = .tracking ∧ (t 20000000).tmu.prior = some ⟨20000000, some .opened, some 20250000⟩ ∧
      (t 19800000).tmu.prior = some ⟨19800000, none, none⟩ ∧ u.tmu.misses = 1 ∧
      u.tmu.prior = some ⟨20000000, some .missed, none⟩ := by decide +kernel

/-- R194: an ARM taken while a RESET_SHOW's response is owed forms it first, showing DARK. -/
theorem test_arm_ends_reset_show :
    let t := after (.arm .stage [12, 0]) (after (.resetShow .rig []) (stored 0))
    t.lku.rig.responses.map (fun r => (r.code, r.showState)) = [(27, .dark)] ∧ t.scu.showState = .armed := by
  decide +kernel

/-- Ch. 1, index 8: the beat after -1/4 is 12/47/1, RUNNING, and FOLLOW enters TRACKING at 500,000. -/
theorem test_grid_beat_ends_count_in :
    let s := grid .fixed 500000 24050000 (at_ .countIn 12 (-1) 4 1 1 (stored 24050000))
    let t := after .gridBeat (s.onScu fun c => { c with armed := some (12, 47) })
    t.scu.showState = .running ∧ t.scu.position.place = some ⟨12, 47, 1, 1⟩ ∧ t.tmu.tempo = .tracking ∧
      t.tmu.period = 500000 ∧ t.tmu.nextBeat = some 24550000 := by decide +kernel

/-- Ch. 2, e7 and e13: past bar 10 the vamp wraps to 9/1 with pass 2, and with the exit armed the position enters
segment 2 in FOLLOW with pass 1. -/
theorem test_grid_beat_in_vamp :
    let s := grid .fixed 600000 73600000 (at_ .running 5 10 3 1 1 (stored 73600000))
    let t := after .gridBeat s
    let u := after .gridBeat (s.onScu fun c => { c with position := { c.position with pass := 2, exitArmed := true } })
    t.scu.position = ⟨some ⟨5, 9, 1, 1⟩, 2, false, 0⟩ ∧ t.tmu.tempo = .fixed ∧
      u.scu.position = ⟨some ⟨5, 11, 1, 2⟩, 1, false, 0⟩ ∧ u.tmu.tempo = .tracking := by decide +kernel

/-- Ch. 2: VAMP_EXIT within the vamp arms the exit; just after it the request is IGNORED. -/
theorem test_vamp_exit :
    let t := after (.vampExit .podium []) (at_ .running 5 10 2 1 2 (stored 0))
    let u := after (.vampExit .podium []) (at_ .running 5 11 1 2 1 (stored 0))
    t.scu.position.exitArmed = true ∧ u.scu.position.exitArmed = false ∧
      u.lku.podium.responses.map Response.result = [.ignored] := by decide +kernel

/-! ## Tempo (ch. 3) -/

/-- One tracked beat: the capture at 9,994,000. -/
theorem test_capture_tracks :
    let t := after (.beatEdge .a) (tracking 500000 10000000 9504000 9994000)
    t.tmu.p16 = 7960000 ∧ t.tmu.nextBeat = some 9997000 ∧ t.tmu.prevMatched = some 9994000 ∧
      t.tmu.lineA.log = [⟨9994000, .accepted, some 490000, some (-6000)⟩] := by decide +kernel

/-- One tracked beat: an edge 1,500 µs before the pending beat holds its correction of -750. -/
theorem test_capture_near_pending_beat :
    let t := after (.beatEdge .a) (tracking 500000 10000000 9504000 9998500)
    t.tmu.p16 = 7978000 ∧ t.tmu.nextBeat = some 10000000 ∧ t.tmu.correction = -750 ∧
      (after .gridBeat (t.setNow 10000000)).tmu.nextBeat = some 10497875 := by decide +kernel

/-- A left-out beat: its miss check, and the double split that follows. -/
theorem test_miss_check_and_double_split :
    let s := (grid .tracking 500000 41000000 (stored 40750000)).onTmu fun t =>
      { t with emitted := [⟨40500000, some .opened, some 40750000⟩], prevMatched := some 40000000 }
    let t := after .missCheck s
    let u := after (.beatEdge .a) (((grid .tracking 500000 41500000 (stored 41010000)).onTmu fun t =>
      { t with emitted := [⟨41000000, some .opened, some 41250000⟩], prevMatched := some 40000000, misses := 1 }))
    t.tmu.misses = 1 ∧ t.lku.latched.getLsbD 2 = true ∧ u.tmu.p16 = 8020000 ∧ u.tmu.misses = 0 ∧
      u.tmu.nextBeat = some 41506250 ∧
      u.tmu.lineA.log.map LogEntry.disposition = [.doubleSplit] := by decide +kernel

/-- A subito change: the third outlier reseeds at 400,000 and moves the pending beat to 31,337,500. -/
theorem test_capture_reseeds :
    let s := (tracking 500000 31387500 30802000 31200000).onTmu fun t =>
      { t with
        settings := { t.settings with window := 8 }, outliers := 2, outlierIntervals := [400000, 402000] }
    let t := after (.beatEdge .a) s
    t.tmu.p16 = 6400000 ∧ t.tmu.nextBeat = some 31337500 ∧ t.tmu.outliers = 0 ∧ t.tmu.reseeds = 1 := by
  decide +kernel

/-- Follow lost: the fourth miss enters FLYWHEEL; the second matched capture after it ends it. -/
theorem test_flywheel_entered_and_left :
    let s := (grid .tracking 500000 52500000 (stored 52250000)).onTmu fun t =>
      { t with emitted := [⟨52000000, some .opened, some 52250000⟩], misses := 3 }
    let t := after .missCheck s
    let u := after (.beatEdge .a) (((grid .flywheel 500000 53500000 (stored 53490000)).onTmu fun t =>
      { t with emitted := [⟨53000000, some .matched, none⟩], reacquire := 1 }))
    t.tmu.tempo = .flywheel ∧ t.holds .followLost = true ∧ u.tmu.tempo = .tracking ∧ u.tmu.reacquire = 0 := by
  decide +kernel

/-! ## Cues (ch. 4) -/

/-- GO with a skip: GO(170) with the pointer at 160 skips 160 and 165 and leaves no pointer. -/
theorem test_go_skips :
    let s := ((at_ .running 12 54 1 1 1 (stored 0)).onStore fun t =>
      { t with cues := [cue 160 (.go 52) [.patch 3 0 104 .now], cue 165 (.go 53) [.lane 2 true none],
        cue 170 (.go 54) [.patch 9 0 42 .now]] }).onCue fun q => { q with goPointer := some 160 }
    let t := after (.go .stage [1, 0, 170]) s
    t.cue.goPointer = none ∧ t.cue.skipped = 2 ∧ t.cue.goRun = 1 ∧
      t.store.cues.map CueEntry.fired = [none, none, some 1] := by decide +kernel

/-- Firing in a vamp: cue 52 fires at 5/9/2 in pass 1 and its patch is predicted for 71,800,000. -/
theorem test_positional_firing_in_vamp :
    let e : CueEntry := ⟨⟨52, 5, .position 10 1 2 true, [.patch 6 0 7 .atCue]⟩, none, false⟩
    let g : GridBeat := ⟨1, 70600000, 600000, .running, ⟨some ⟨5, 9, 2, 1⟩, 1, false, 0⟩, false, false, false⟩
    let s := (station 6 80000 310 (-3799910) (at_ .running 5 9 2 1 1 (stored 70600000))).onStore fun t =>
      { t with cues := [e] }
    let t := after .positionalFiring (s.onCue fun q => { q with hands := [.beat g] })
    t.store.cues.map CueEntry.fired = [some 1] ∧ (t.queue 6).map Entry.landTime = [71800000] := by
  decide +kernel

/-- A LANE action of a positional cue unmutes lanes 1 and 15 with source CUE and sets their override, and a FEED action
sets feeds 1 and 6 (R70, worked by hand). -/
theorem test_lane_and_feed_actions :
    let g : GridBeat := ⟨1, 70600000, 600000, .running, ⟨some ⟨5, 9, 2, 1⟩, 1, false, 0⟩, false, false, false⟩
    let fire (a : Action) : State := after .positionalFiring
      (((at_ .running 5 9 2 1 1 (stored 70600000)).onStore fun t =>
        { t with cues := [⟨⟨52, 5, .position 10 1 2 true, [a]⟩, none, false⟩] }).onCue fun q =>
        { q with hands := [.beat g] })
    let t := fire (.lane 0x8002 false (some 3))
    let u := fire (.feed 0x42 (some .camB) (some 5))
    [1, 2, 15].map (fun n => (t.lane n).muted) = [false, true, false] ∧ (t.lane 15).source = .cue ∧
      (t.lane 1).override = some 3 ∧ [1, 2, 6].map (fun n => (u.feed n).overlay) = [5, 31, 5] ∧
      (u.feed 6).pending = some .camB := by decide +kernel

/-- Two cues of one event arm a vamp's exit: the second's CUE_FIRED shows the exit the first armed, and neither its own
(R68). -/
theorem test_cue_fired_shows_the_position_at_its_run :
    let c (id : Nat) : CueEntry := ⟨⟨id, 5, .position 10 1 2 true, [.vampExit]⟩, none, false⟩
    let g : GridBeat := ⟨1, 0, 600000, .running, ⟨some ⟨5, 9, 2, 1⟩, 1, false, 0⟩, false, false, false⟩
    let s := (at_ .running 5 9 2 1 1 (stored 0)).onStore fun t => { t with cues := [c 52, c 53] }
    let t := after .positionalFiring (s.onCue fun q => { q with hands := [.beat g] })
    t.lku.rig.notices.filterMap (fun n =>
      match n.body with
      | .cueFired id _ pass p _ => some (id, pass, p.exitArmed)
      | _ => none) = [(52, 1, false), (53, 1, true)] := by decide +kernel

/-- Resolution at a restart: for 12/47/1 station 3 layer 0 gets 102 and station 9 layer 0 gets 41, with the
pointer at the first GO cue after bar 47. -/
theorem test_arm_resolves :
    let s := ((station 3 20000 60 0 (station 9 20000 60 0 (stored 0))).onStore fun t =>
      { t with cues := [cue 120 (.go 1) [.patch 3 0 101 .now], cue 140 (.go 41) [.patch 3 0 102 .now],
        cue 150 (.go 47) [.patch 9 0 41 .now], cue 160 (.go 52) [.patch 3 0 104 .now]] }).onPbc fun b =>
      { b with stations := b.stations.map fun r => { r with patches := [some 104, some 200] } }
    let t := after (.arm .stage [12, 1, 0, 47]) s
    t.scu.showState = .preparing ∧ t.cue.goPointer = some 160 ∧
      (t.queue 3).map (fun e => (e.layer, e.patch)) = [(0, 102)] ∧
      (t.queue 9).map (fun e => (e.layer, e.patch)) = [(0, 41)] := by decide +kernel

/-! ## Dispatch and the pit bus (ch. 5, ch. 6) -/

/-- The entry of ch. 5's positional patch: station 6 layer 2, patch 310. -/
def entry310 (x : EntryState) (land : Nat) : Entry :=
  { station := 6, layer := 2, patch := 310, origin := .cue, form := .position,
    landPlace := some ⟨12, 50, 1, 1, 1⟩, landTime := land, state := x, seq := 0 }

/-- The part with that entry in station 6's queue, at a time. -/
def patching (x : EntryState) (land t : Nat) : State :=
  (station 6 80000 310 (-3799910) (at_ .running 12 49 3 1 1 (stored t))).onQueue 6 fun _ => [entry310 x land]

/-- Ch. 5, e2: with k = 2, N = 31,494,500 and P = 497,500 the land becomes 31,992,000. -/
theorem test_land_recompute :
    let g : GridBeat := ⟨2, 30997000, 497500, .running, ⟨some ⟨12, 49, 3, 1⟩, 1, false, 0⟩, false, false, false⟩
    let s := (grid .tracking 497500 31494500 (patching .queued 32000000 30997000)).onPdu fun d =>
      { d with hands := [.beat g] }
    ((after .landRecompute s).queue 6).map Entry.landTime = [31992000] := by decide +kernel

/-- Ch. 5: the entry is sendable from 31,811,690; its timed APPLY carries local land 28,192,090. -/
theorem test_apply_is_sent :
    let s := patching .queued 31992000
    let t := after (.entrySendable 6 []) (s 31811700)
    ((s 31811689).offer 6).isSome = false ∧ ((s 31811690).offer 6).isSome = true ∧
      t.pbc.exchange = some ⟨6, .apply 2 310 (some 28192090), 31811700, 0⟩ ∧
      (t.queue 6).map (fun e => (e.state, e.doneDeadline)) = [(.sent, some 32042000)] := by decide +kernel

/-- Ch. 5: the DONE closes the entry as applied and records the patch. -/
theorem test_done_applies :
    let s := (patching .acked 31992000 31992600).onPbc fun b => { b with reports := [(6, .done 2 310)] }
    let t := after .doneReport s
    t.queue 6 = [] ∧ (t.station 6).patches.getD 2 none = some 310 ∧ (nth1 t.pdu.closures 6).applied = 1 := by
  decide +kernel

/-- Ch. 6: against station 4's attention the APPLY to station 9 is not sent; against station 9's own it is. -/
theorem test_bus_arbitration :
    let s := ((station 9 20000 60 0 (stored 12000000)).onQueue 9 fun _ =>
      [{ entry310 .queued 12000000 with station := 9, form := .now }])
    (after (.busFree [4, 12]) s).pbc.attention = some 4 ∧ (after (.busFree [4, 12]) s).pbc.exchange = none ∧
      (after (.busFree [9, 12]) s).pbc.exchange.map Exchange.station = some 9 := by decide +kernel

/-- Ch. 6: a POLL_REPLY that carries a PANIC and tally 10 clears the starved flag and adds 10 to the loss total. -/
theorem test_poll_reply_of_starved_station :
    let s := ((station 14 20000 60 0 (stored 40251000)).onStation 14 fun r =>
      { r with starved := true, lossCounter := 9 }).onPbc fun b =>
        { b with exchange := some ⟨14, .poll false, 40250900, 0⟩ }
    let t := after (.pollReply 14 10 (some (.panic 2))) s
    (t.station 14).starved = false ∧ (t.station 14).lossTotal = 10 ∧ (t.station 14).lossCounter = 0 ∧
      t.pbc.reports = [(14, .panic 2)] := by decide +kernel

/-- Station 6 JOINING with a probe open from a send time. -/
def probing (sent good : Nat) (o : Option Int) : State :=
  ((station 6 80000 310 0 (stored sent)).onStation 6 fun r =>
    { r with state := .joining, goodProbes := good, offset := o }).onPbc fun b =>
      { b with exchange := some ⟨6, .probe, sent, 0⟩ }

/-- Ch. 6: the first good probe loads O = -3,799,910 and D = 310; the second filters O to -3,799,900. -/
theorem test_probe_samples :
    let t := after (.probeReply 6 0 1200400 1200650 5000870) (probing 5000000 0 none)
    let u := after (.probeReply 6 0 1210480 1210700 5010840) (probing 5010000 1 (some (-3799910)))
    (t.station 6).offset = some (-3799910) ∧ (t.station 6).delay = 310 ∧ (t.station 6).goodProbes = 1 ∧
      (u.station 6).offset = some (-3799900) ∧ (u.station 6).delay = 310 := by decide +kernel

/-- Ch. 6: a round trip of 2,400 µs is discarded; no reply by 5,034,000 is a failure. -/
theorem test_probe_discarded_and_unanswered :
    let t := after (.probeReply 6 0 1220400 1220650 5022400) (probing 5020000 2 (some (-3799900)))
    let u := after .noReply ((probing 5030000 2 (some (-3799900))).setNow 5034000)
    (t.station 6).goodProbes = 2 ∧ (t.station 6).discarded = 1 ∧ (u.station 6).streak = 1 ∧
      (u.station 6).goodProbes = 0 := by decide +kernel

/-- Ch. 6: the third failure, an unanswered PROBE at 70,304,000, cuts the station. -/
theorem test_third_failure_cuts :
    let s := ((station 6 20000 60 0 (stored 70304000)).onStation 6 fun r =>
      { r with state := .suspect, streak := 2 }).onPbc fun b => { b with exchange := some ⟨6, .probe, 70300000, 0⟩ }
    let t := after .noReply s
    (t.station 6).state = .cut ∧ t.holds .stationCut = true ∧ (t.station 6).nextPoll = some 71304000 := by
  decide +kernel

/-! ## Clicks (ch. 7) -/

/-- The part of ch. 7 at the beat of 24,050,000: lanes 1, 4 and 7 unmuted, pattern slot 2. -/
def clicking : State :=
  let g : GridBeat := ⟨8, 24050000, 500000, .running, ⟨some ⟨12, 47, 1, 1⟩, 1, false, 0⟩, true, true, false⟩
  let s := (at_ .running 12 47 1 1 1 (stored 24050000)).onStore fun t =>
    { t with
      patterns := t.patterns.set 2 ⟨[3, 2, 2, 2, 0, 0, 0, 0, 0, 0, 0, 0], 1⟩
      laneBases := (t.laneBases.set 3 ⟨3, 12000, some 2, 10, 20, 31⟩).set 6 ⟨2, 5000, none, 0, 16, 28⟩ }
  s.onClu fun c =>
    { c with
      hands := [.beat g]
      lanes := ((c.lanes.set 0 { muted := false }).set 3 { muted := false, offset := 51000 }).set 6
        { muted := false, offset := 5000 } }

/-- Ch. 7: lane 1 sounds at once, lane 4 schedules three clicks, lane 7 its beat click alone. -/
theorem test_click_schedule :
    let t := after .clickSchedule clicking
    (t.lane 1).burst = some ⟨31, 3, 24060000⟩ ∧
      (t.lane 4).schedule = [⟨24101000, true, 3, 31⟩, ⟨24267666, false, 1, 10⟩, ⟨24434332, false, 1, 10⟩] ∧
      (t.lane 7).schedule = [⟨24055000, true, 3, 28⟩] := by decide +kernel

/-- Ch. 7: a stop between clicks drops the two that wait and ends the burst. -/
theorem test_hold_entry_drops_clicks :
    let s := (stored 24105000).onClu fun c =>
      { c with
        hands := [.hold 7 .stageLink]
        lanes := c.lanes.set 3 { (default : Lane) with
          burst := some ⟨31, 3, 24111000⟩
          schedule := [⟨24267666, false, 1, 10⟩, ⟨24434332, false, 1, 10⟩] } }
    let t := after .cluHoldEntry s
    (t.lane 4).schedule = [] ∧ (t.lane 4).burst = none ∧ (t.lane 4).dropped = 2 := by decide +kernel

/-- Ch. 7: lane 9 with base 60,000 and feed 3 at 23,000: trim -6,000 gives 77,000, OK; a lane of base 0 and trim
-3,000 gives 0, CLAMPED. -/
theorem test_set_lane_offsets :
    let s := ((stored 0).onStore fun t => { t with laneBases := t.laneBases.set 8 ⟨1, 60000, some 3, 10, 20, 31⟩ }).onFeed 3
      fun f => { f with latency := 23000 }
    let t := after (.setLane .rig (be 2 512 ++ [0] ++ 1 :: beInt 4 (-6000))) s
    let u := after (.setLane .rig (be 2 2 ++ [0] ++ 1 :: beInt 4 (-3000))) s
    (t.lane 9).offset = 77000 ∧ t.lku.rig.responses.map Response.result = [.ok] ∧ (u.lane 1).offset = 0 ∧
      u.lku.rig.responses.map Response.result = [.clamped] := by decide +kernel

/-! ## Video (ch. 8) -/

/-- Ch. 8: feed 3's pending CAM_B is taken at camera B's frame start. -/
theorem test_camera_frame_switches :
    let s := (stored 80007000).onFeed 3 fun f => { f with pending := some .camB }
    let t := after (.cameraFrameStart .b) s
    (t.feed 3).source = .camB ∧ (t.feed 3).showing = .cam .b ∧ (t.feed 3).switches = 1 ∧
      (t.feed 3).pending = none := by decide +kernel

/-- Feed 4 of ch. 8 with a marked frame out. -/
def measuring (mark l t : Nat) (loaded : Bool) : State :=
  (stored t).onFeed 4 fun f => { f with measure := true, mark := some mark, latency := l, loaded := loaded }

/-- Ch. 8: samples of 40,000 and 80,000 give 40,900 and 67,628, which is high; 300,000 is discarded. -/
theorem test_echo_samples :
    let t := after (.feedEcho 4) (measuring 90660000 41200 90700000 true)
    let u := after (.feedEcho 4) (measuring 94500000 63504 94580000 true)
    let v := after (.feedEcho 4) (measuring 91940000 40900 92240000 true)
    (t.feed 4).latency = 40900 ∧ (u.feed 4).latency = 67628 ∧ (u.feed 4).high = true ∧
      u.holds .feedLatencyHigh = true ∧ (v.feed 4).latency = 40900 ∧ (v.feed 4).discarded = 1 := by
  decide +kernel

/-- The full panic list of ch. 8, and the one after 3/1 is replaced. -/
def panics (l : List (Nat × Nat)) (s : State) : State :=
  s.onVu fun v => { v with panic := l.map fun x => ⟨x.1, x.2, 0, 0⟩ }

/-- Ch. 8: PANIC 6/5 takes the place of the oldest, 3/1; ACK_PANIC 7/4 then removes 7/4. -/
theorem test_panic_list :
    let s := (panics [(3, 1), (3, 2), (5, 1), (7, 4), (9, 2), (11, 1), (12, 3), (14, 2)] (stored 0)).onPbc fun b =>
      { b with reports := [(6, .panic 5)] }
    let t := after .panicReport s
    let u := after (.ackPanic .podium [7, 4]) t
    t.vu.panic.map (fun e => (e.station, e.player)) =
        [(3, 2), (5, 1), (7, 4), (9, 2), (11, 1), (12, 3), (14, 2), (6, 5)] ∧
      u.vu.panic.map (fun e => (e.station, e.player)) =
        [(3, 2), (5, 1), (9, 2), (11, 1), (12, 3), (14, 2), (6, 5)] := by decide +kernel

/-! ## The stop (ch. 9) -/

/-- Ch. 9: the pedal held for 2,000 µs is a line stop: HOLD with stop id 7 at 12/53/2, the lamp lit. -/
theorem test_line_stop :
    let s := (at_ .running 12 53 2 1 1 (stored 150002000)).onScu fun c =>
      { c with stopId := 6, podiumLine := ⟨true, false, some 150000000, 0⟩ }
    let t := after (.lineSettle .podium) s
    t.scu.showState = .hold ∧ t.scu.stopId = 7 ∧ t.scu.stopSet = { podiumLine := true } ∧ t.scu.lamp = true ∧
      t.scu.position.place = some ⟨12, 53, 2, 1⟩ := by decide +kernel

/-- Ch. 9: a stop from DARK with stop id 8 is stop 9, held from DARK; its RELEASE goes back to DARK. -/
theorem test_stop_from_dark :
    let t := after (.stop .stage []) ((at_ .dark 12 96 4 2 1 (stored 300000000)).onScu fun c => { c with stopId := 8 })
    let u := after (.release .stage []) t
    t.scu.showState = .hold ∧ t.scu.stopId = 9 ∧ t.scu.heldFrom = some .dark ∧ u.scu.showState = .dark ∧
      u.scu.stopRecord.bind StopRecord.exit = some (.dark, 300000000) := by decide +kernel

/-! ## Links, store and start-up (ch. 10, ch. 11) -/

/-- Ch. 10: after a slip, the Stage Link's READ_SHOW carries bit 2 with E no and W yes and clears that link's
capture; CLEAR_STATUS then keeps the bit that the other links still hold. -/
theorem test_slip_seen_by_links :
    let s := (raiseEvent .beatSlip (stored 40750000)).onLku fun k => { k with current := 0, latched := 4 }
    let t := after (.readShow .stage []) s
    let u := after (.clearStatus .stage []) t
    t.lku.stage.responses.map (fun r => (r.e, r.w, r.current)) = [(false, true, 4)] ∧
      t.lku.stage.captured = 0 ∧ t.lku.rig.captured = 4 ∧ u.lku.latched = 4 := by decide +kernel

/-- Ch. 10: with 16 notices queued, a PATCH of a queued subject is replaced in place, and a STATION of a new one
is dropped and captured as NOTICE_LOST on that link. -/
theorem test_full_notice_queue :
    let s := (stored 0).onLink .rig fun r =>
      { r with notices := (upTo 16).map fun n => ⟨.patch 3 n 7 .applied none false, 0⟩ }
    let t := raiseNotice (.patch 3 5 7 .failed none false) s
    let u := raiseNotice (.station 11 .cut .cut) s
    t.lku.rig.noticesReplaced = 1 ∧ t.lku.rig.notices.length = 16 ∧
      (t.lku.rig.notices.getD 4 ⟨.stop .entry none none none default false none .dark, 0⟩).body =
        .patch 3 5 7 .failed none false ∧
      u.lku.rig.noticesLost = 1 ∧ u.lku.rig.captured = 2048 ∧ u.lku.stage.noticesLost = 0 := by decide +kernel

set_option maxRecDepth 20000 in
/-- Ch. 11: a SEAL that does not match leaves an unsealed store as it was, answered CRC_MISMATCH with the CRC. -/
theorem test_seal_mismatch :
    let t := after (.seal .rig [0, 0])
      ((stored 5).onStore fun k => { k with songs := [], patterns := [], laneBases := [], feedBases := [] })
    t.store.ready = false ∧ t.store.sealedCrc = none ∧
      t.lku.rig.responses.map Response.result = [.crcMismatch] ∧
      t.lku.rig.responses.map (fun r => r.data.length) = [2] := by decide +kernel

/-! ## Witnesses: a state and operands that meet the hypotheses of each statement, clause by clause -/

/-- On a part with empty link records every request completes with its frame's payload. -/
theorem completes_of_idle (l : Link) (c : Nat) (p : List Byte) (s : State) (h : s.inReset = false)
    (hl : s.lku = default) : Completes l c p p s := by
  cases l <;> exact ⟨h, by rw [hl]; exact Nat.zero_lt_succ _, fun _ => by rw [hl]; rfl, by rw [hl]; rfl⟩

/-- So it does on a part whose link has room, no run and no discard, with no RESET_SHOW still being taken. -/
theorem completes_of_room (l : Link) (c : Nat) (p : List Byte) (s : State)
    (h : (s.inReset = false ∧ s.lku.resetOwed = false) ∧ (s.lku.link l).responses.length < 8 ∧
      (s.lku.link l).discarding = none ∧ (s.lku.link l).run = none) : Completes l c p p s :=
  ⟨h.1.1, h.2.1, fun _ => h.1.2, by rw [h.2.2.1, h.2.2.2]⟩

/-- So it does on the stored part at any time. -/
theorem completes_stored (l : Link) (c : Nat) (p : List Byte) (t : Nat) : Completes l c p p (stored t) :=
  completes_of_idle l c p _ rfl rfl

/-- Entries stand in their own station's queue when they do for the 14 stations. -/
theorem stations_of_14 (s : State) (hl : s.pdu.queues.length = 14)
    (h : ∀ n ∈ upTo 14, ∀ e ∈ s.queue n, e.station = n) (n : Nat) : ∀ e ∈ s.queue n, e.station = n := by
  by_cases hn : 1 ≤ n ∧ n ≤ 14
  · exact h n (by simp [upTo]; exact ⟨n - 1, by omega, by omega⟩)
  · intro e he
    rw [State.queue, nth1_default_of_not s.pdu.queues n (by rw [hl]; exact hn)] at he
    cases he

theorem witness_StepTakesFrontCommandOrTicks :
    ((stored 0).pending = [] ∧ dueEvents (stored 0) = [] ∧ (stored 0).inReset = false) ∧
    (dueEvents (grid .fixed 500000 7 (stored 7)) ≠ [] ∧ (grid .fixed 500000 7 (stored 7)).pending = []) ∧
    (let s := (grid .tracking 500000 900000 (stored 900000)).onTmu fun t =>
      { t with atOnce := true, emitted := [⟨400000, some .opened, some 650000⟩] }
    s.inReset = false ∧ s.now < timeMax ∧ s.tmu.atOnce = true ∧ s.tmu.tempo ≠ .idle ∧
      s.tmu.nextBeat = some s.now ∧ s.tmu.hands = []) := by decide +kernel

theorem witness_RestartsReachStartUp :
    Completes .rig 28 [] [] (stored 0) ∧
      (let s := (stored 7).onLink .rig fun r => { r with tx := some ⟨[], 7, true⟩ }
      s.inReset = false ∧ ∃ l x, (s.lku.link l).tx = some x ∧ x.reboots = true ∧ x.endTime ≤ s.now) :=
  ⟨completes_stored .., rfl, .rig, _, rfl, rfl, Nat.le_refl 7⟩

theorem witness_EveryCommandGoesOnAndResetTakesNone : ({ State.reset with inReset := true }).inReset = true := rfl

/-- A part in HOLD. -/
def held : State := (after (.stop .stage []) (stored 100)).withPending [.heldInReset]

theorem held_hold : held.scu.showState = .hold := by decide +kernel

/-- The stop record of the part in HOLD. -/
theorem held_record : held.scu.stopRecord.map StopRecord.exit = some none := by decide +kernel

/-- A part in HOLD with a stop record whose exit is none keeps the stop's invariant, lamp and set being right. -/
theorem stopInv_of_hold (s : State) (h : s.scu.showState = .hold ∧ s.scu.lamp = true ∧ s.holds .holdActive = true)
    (r : StopRecord) (hr : s.scu.stopRecord = some r ∧ r.exit = none) : StopInv s :=
  ⟨by simp [h.1, h.2.1], by rw [h.2.1, h.2.2], fun k => absurd h.1 k, fun _ => ⟨r, hr⟩, fun k => absurd h.1 k,
    fun _ => .inr h.1⟩

theorem held_stopInv : StopInv held := by
  have := held_record
  cases h : held.scu.stopRecord with
  | none => simp [h] at this
  | some r => exact stopInv_of_hold _ (by decide +kernel) r ⟨h, by simpa [h] using this⟩

theorem held_room (l : Link) : (held.inReset = false ∧ held.lku.resetOwed = false) ∧
    (held.lku.link l).responses.length < 8 ∧ (held.lku.link l).discarding = none ∧ (held.lku.link l).run = none := by
  cases l <;> decide +kernel

theorem witness_StepKeepsStopInvariant : StopInv held ∧ ∃ t, step held = .next t := ⟨held_stopInv, _, rfl⟩

/-- A sealed part in the middle of a background pass. -/
def sealed (t : Nat) : State :=
  (setCondition .storeUnsealed false (stored t)).onStore fun k =>
    { k with sealedCrc := some 7, ready := true, passEnd := some (t + 200000) }

/-- The stored part's tables are in order, with any list of cues of ascending ids. -/
theorem tableInv_stored (s : State) (h : s.store.songs = (stored 0).store.songs)
    (hc : (s.store.cues.map fun e => e.cue.id).Pairwise (· < ·)) : TableInv s := by
  refine ⟨hc, fun n g hg => ?_⟩
  by_cases hn : 1 ≤ n ∧ n ≤ 64
  · have : ∀ n ∈ upTo 64, ((stored 0).store.song n).all (fun g => g.number == n) = true := by decide +kernel
    have := this n (by simp [upTo]; exact ⟨n - 1, by omega, by omega⟩)
    rw [Store.song, h] at hg
    simpa [Store.song, hg] using this
  · rw [Store.song, nth1_default_of_not _ n (by rw [h]; exact hn)] at hg
    cases hg

theorem witness_StepKeepsSealInvariant :
    (SealInv (sealed 0) ∧ ∃ t, step ((sealed 0).withPending [.heldInReset]) = .next t) ∧
    (TableInv (stored 0) ∧ ∃ t, step ((stored 0).withPending [.deleteSong .rig [12]]) = .next t) :=
  ⟨⟨by unfold SealInv; decide +kernel, _, rfl⟩, tableInv_stored _ rfl List.Pairwise.nil, _, rfl⟩

/-- The dispatch tables of a part are in order when they are for the 14 stations. -/
theorem dispatchInv_of_14 (s : State) (hl : s.pdu.queues.length = 14 ∧ s.pdu.closures.length = 14)
    (h : ∀ n ∈ upTo 14, (∀ e ∈ s.queue n, e.station = n) ∧
      (let c := nth1 s.pdu.closures n
      c.created = BitVec.ofNat 32 (s.queue n).length + c.applied + c.failed + c.superseded + c.discarded))
    (ho : s.pdu.outstanding =
      (s.pdu.queues.map fun q => (q.filter fun e => e.origin == .resolution).length).sum) : DispatchInv s :=
  ⟨hl.1, hl.2, fun n => stations_of_14 s hl.1 (fun n hn => (h n hn).1) n,
    fun n h1 h2 => (h n (by simp [upTo]; exact ⟨n - 1, by omega, by omega⟩)).2, ho⟩

/-- A part with one RESOLUTION entry of station 9 outstanding. -/
def owing : State :=
  ((station 9 20000 60 0 (stored 0)).onQueue 9 fun _ =>
    [{ station := 9, layer := 0, patch := 42, origin := .resolution, form := .now, landPlace := none, landTime := 0
       seq := 0 }]).onPdu fun d =>
      { d with outstanding := 1, nextSeq := 1, closures := d.closures.set 8 { created := 1 } }

theorem dispatchInv_owing : DispatchInv owing :=
  dispatchInv_of_14 _ (by decide +kernel) (by decide +kernel) (by decide +kernel)

theorem witness_StepKeepsQueueInvariant :
    (QueueInv (clicking.withPending [.clickSchedule]) ∧
      ∃ t, step (clicking.withPending [.clickSchedule]) = .next t) ∧
    (DispatchInv owing ∧ ∃ t, step (owing.withPending [.entrySendable 9 []]) = .next t) := by
  refine ⟨⟨⟨fun l => ?_, fun h => ?_, by decide +kernel, ?_, ?_, by decide +kernel, by decide +kernel,
    by decide +kernel⟩, _, rfl⟩, dispatchInv_owing, _, rfl⟩
  · cases l <;> exact ⟨by decide +kernel, by decide +kernel, List.Pairwise.nil⟩
  · exact absurd h (by decide +kernel)
  · unfold InQueueOrder; decide +kernel
  · unfold Lane.ascending; decide +kernel

theorem witness_StepKeepsTimeWithin48Bits :
    (TimeInv (stored timeMax) ∧ ∃ t, step ((stored timeMax).withPending [.heldInReset]) = .next t) ∧
    TimeInv (stored 7) ∧ ∃ t, step ((stored 7).withPending [.resetPin]) = .next t :=
  ⟨⟨Nat.le_refl _, _, rfl⟩, by unfold TimeInv; decide, _, rfl⟩

theorem witness_LinkFrameBringsItsRequest :
    (Instr.writeSong .rig (List.replicate 240 7)).wf = true ∧
      (codeOf (.writeSong .rig (List.replicate 240 7))).isSome = true := by decide +kernel

theorem witness_RequestWithoutRightIsRefused :
    codeOf (.go .rig [0]) = some 1 ∧ payloadOf (.go .rig [0]) = some (.rig, [0]) ∧
      mayTake (.go .rig [0]) .rig = false ∧ Completes .rig 1 [0] [0] (stored 0) :=
  ⟨rfl, rfl, rfl, completes_stored ..⟩

theorem witness_FullResponseQueueOverruns (l : Link) :
    let s := (stored 0).onLink l fun r => { r with responses := List.replicate 8 default }
    settled l s ∧ s.inReset = false ∧ 8 ≤ (s.lku.link l).responses.length ∧ (s.lku.link l).run = none ∧
      (s.lku.link l).discarding = none ∧ (codeOf (.count l [0])).isSome = true ∧
      payloadOf (.count l [0]) = some (l, [0]) ∧ requestCodes.contains (255 : Byte).toNat = false := by
  cases l <;> exact ⟨fun _ => rfl, by decide +kernel⟩

theorem witness_UnknownCodeOrWrongLengthIsRange :
    (lengthAllowed (.release .stage [1]) [1] = false ∧ codeOf (.release .stage [1]) = some 3 ∧
      payloadOf (.release .stage [1]) = some (.stage, [1]) ∧ mayTake (.release .stage [1]) .stage = true ∧
      Completes .stage 3 [1] [1] (stored 0)) ∧
    (lengthAllowed (.writeSong .rig [12, 1]) [12, 1] = false ∧ codeOf (.writeSong .rig [12, 1]) = some 16 ∧
      payloadOf (.writeSong .rig [12, 1]) = some (.rig, [12, 1]) ∧ mayTake (.writeSong .rig [12, 1]) .rig = true ∧
      Completes .rig 16 [12, 1] [12, 1] (stored 0)) ∧
    (∀ b, let p : List Byte := [0, 5, 12, 1, 0, 1, 1, 0, 0, 0, 0, 1, 1, 3, 0, b, 4]
      lengthAllowed (.writeCue .rig p) p = false ∧ codeOf (.writeCue .rig p) = some 19 ∧
      payloadOf (.writeCue .rig p) = some (.rig, p) ∧ mayTake (.writeCue .rig p) .rig = true ∧
      Completes .rig 19 p p (stored 0)) ∧
    (requestCodes.contains (0 : Byte).toNat = false ∧ Completes .rig (0 : Byte).toNat [] [] (stored 0)) :=
  ⟨⟨by decide, rfl, rfl, rfl, completes_stored ..⟩, ⟨by decide, rfl, rfl, rfl, completes_stored ..⟩,
    fun _ => ⟨rfl, rfl, rfl, rfl, completes_stored ..⟩, rfl, completes_stored ..⟩

theorem witness_ReadsAnswerTheirData (l : Link) :
    (∀ c ∈ [48, 49, 52, 54, 55, 58, 59, 63, 65, 66, 67, 68], Completes l c [] [] (stored 0)) ∧
    (∀ c ∈ [50, 51, 56, 57, 60, 61, 62, 64], ∀ b ∈ ([0, 1, 6, 12, 14, 15, 16, 64, 65] : List Byte),
      Completes l c [b] [b] (stored 0)) ∧ Completes l 53 [39, 15] [39, 15] (stored 0) :=
  ⟨fun _ _ => completes_stored .., fun _ _ _ _ => completes_stored .., completes_stored ..⟩

theorem witness_LiveSettingsAndLockAreSet :
    Completes .rig 32 [6, 32, 8, 4, 16, 0, 1, 0x86, 0xA0] [6, 32, 8, 4, 16, 0, 1, 0x86, 0xA0] (stored 0) ∧
      Completes .rig 33 [3] [3] (stored 0) ∧
      (∀ l, Completes l 42 [1] [1] (stored 0) ∧ Completes l 43 [0] [0] (stored 0) ∧
        Completes l 41 [1, 128, 0, 0, 0] [1, 128, 0, 0, 0] (stored 0)) ∧
      Completes .rig 25 [] [] (stored 0) ∧ Completes .rig 26 [] [] (stored 0) :=
  ⟨completes_stored .., completes_stored .., fun _ => ⟨completes_stored .., completes_stored .., completes_stored ..⟩,
    completes_stored .., completes_stored ..⟩

/-- A part with BEAT_SLIP captured on one link alone and every queue of notices full of CUE_FIRED notices. -/
def slipped (l : Link) : State :=
  ((stored 0).onLku fun k =>
    let full (r : LinkRecord) : LinkRecord :=
      { r with
        notices := (List.range 16).map fun n => ⟨.cueFired (n + 1) true 1 {} none, 0⟩, noticeMask := 0x7FE }
    { k with latched := k.latched ||| Cond.beatSlip.bit, stage := full k.stage, podium := full k.podium
             rig := full k.rig }).onLink l fun r => { r with captured := Cond.beatSlip.bit }

theorem witness_ClearStatusClearsWhatNoLinkHolds (l k : Link) :
    Completes l 40 [] [] (slipped l) ∧
    (∃ t, exec (.clearStatus l []) (slipped l) = .next t ∧ Completes k 40 [] [] t) ∧
    (slipped l).lku.latched.getLsbD 2 = true ∧ (slipped l).lku.current.getLsbD 2 = false ∧
    (∀ j, j ≠ l → ¬ ((slipped l).lku.link j).captured.getLsbD 2 = true) ∧
    ((slipped l).lku.link k).drops ⟨.condition .panic false true true, 0⟩ = true ∧
    Cond.panic.isEvent = false ∧ (slipped l).holds .panic = false := by
  refine ⟨?_, ⟨_, rfl, ?_⟩, ?_⟩
  · cases l <;> exact ⟨rfl, by decide +kernel, fun _ => rfl, rfl⟩
  · cases l <;> cases k <;> exact ⟨rfl, by decide +kernel, fun _ => rfl, rfl⟩
  · refine ⟨?_, ?_, fun j h => ?_, ?_⟩
    · cases l <;> decide +kernel
    · cases l <;> decide +kernel
    · cases l <;> cases j <;> first | exact absurd rfl h | decide +kernel
    · cases l <;> cases k <;> decide +kernel

theorem witness_SetLaneSetsTheLanesOfItsSet :
    ((0 : Mask) = 0#16 ∧ ∀ p, Completes .stage 36 p p (stored 0)) ∧
    ((2 : Mask) ≠ 0#16 ∧ (2 : Mask).getLsbD 0 = false ∧ (some (10000 : Int)).isSome = true ∧
      (∀ t, some (10000 : Int) = some t → -10000 ≤ t ∧ t ≤ 10000) ∧ (stored 0).clu.lanes.length = 16) ∧
    (∀ x : Int, some (10001 : Int) = some x → -2147483648 ≤ x ∧ x < 2147483648) ∧
    (∃ x, some (10001 : Int) = some x ∧ (x < -10000 ∨ 10000 < x)) := by
  refine ⟨⟨rfl, fun p => completes_stored ..⟩, ⟨by decide, by decide, rfl, ?_, rfl⟩, ?_, _, rfl, ?_⟩
  · rintro t ⟨⟩; omega
  · rintro t ⟨⟩; omega
  · omega

theorem witness_FeedRequestsSetTheFeedsOfTheirSet :
    (∀ p, Completes .rig 35 p p (stored 0) ∧ Completes .rig 37 p p (stored 0)) ∧
    (128 : Mask).getLsbD 7 = true ∧ (126 : Mask) ≠ 0#16 ∧
      (∀ b < 16, (126 : Mask).getLsbD b = true → 1 ≤ b ∧ b ≤ 6) ∧ (stored 0).vu.feeds.length = 6 ∧
      ∀ b < 16, (31 : Mask).getLsbD b = true → b ≤ 4 :=
  ⟨fun _ => ⟨completes_stored .., completes_stored ..⟩, by decide, by decide, by decide, rfl, by decide⟩

/-- A part with one GO cue, in a show state. -/
def oneCue (x : ShowState) : State :=
  ((at_ x 12 54 1 1 1 (stored 0)).onStore fun t =>
    { t with cues := [cue 170 (.go 54) [.patch 9 0 42 .now]] }).onCue fun q => { q with goPointer := some 170 }

/-- The case of a PATCH cue: station 9 in a state with a queue, GO cue 170 one PATCH action of its layer 0 at the
next bar, a beat due at 500,000. -/
def patchCue (x : StationState) (q : List Entry) : State :=
  (((grid .fixed 500000 500000 (at_ .running 12 54 1 1 1 (station 9 20000 60 0 (stored 0)))).onStore fun t =>
    { t with cues := [cue 160 (.go 52) [.vampExit], cue 170 (.go 54) [.patch 9 0 42 .nextBar]] }).onCue fun c =>
      { c with goPointer := some 160 }).onStation 9 (fun r => { r with state := x }) |>.onQueue 9 fun _ => q

/-- A QUEUED entry of station 9 at the next downbeat. -/
def downbeatEntry (layer : Nat) (seq : Count32) : Entry :=
  { station := 9, layer := layer, patch := 7, origin := .resolution, form := .nextDownbeat, landPlace := none
    landTime := 2000000, seq := seq }

theorem witness_GoRunsTheCueItResolvesTo :
    (∀ x, Completes .stage 1 [0] [0] (oneCue x) ∧ Completes .stage 1 [1, 0, 170] [1, 0, 170] (oneCue x)) ∧
      (oneCue .dark).scu.showState = .dark ∧ (oneCue .running).scu.showState = .running ∧
      (170 : BitVec 16).toNat ≤ 9999 ∧ 9999 < (10000 : BitVec 16).toNat ∧
      (oneCue .running).cue.goPointer = some 170 ∧
      (oneCue .running).store.cue 170 = some (cue 170 (.go 54) [.patch 9 0 42 .now]) ∧
      (oneCue .running).store.cue 9999 = none :=
  ⟨fun _ => ⟨completes_of_idle _ _ _ _ rfl rfl, completes_of_idle _ _ _ _ rfl rfl⟩, rfl, rfl, by decide, by decide,
    rfl, by decide +kernel, by decide +kernel⟩

/-- GO of a cue with one PATCH action: a station that is gone, an entry of the layer and land, a full queue, and
room. -/
theorem witness_GoOfOnePatch :
    let both := [downbeatEntry 0 3, downbeatEntry 1 4]
    let full := (List.range 8).map fun n => downbeatEntry (n + 1) 0
    (∀ s ∈ [patchCue .absent [], patchCue .ready both, patchCue .ready full, patchCue .ready []],
      Completes .stage 1 [1, 0, 170] [1, 0, 170] s ∧ s.scu.showState = .running ∧ s.cue.goPointer = some 160 ∧
        s.store.cue 170 = some (cue 170 (.go 54) [.patch 9 0 42 .nextBar]) ∧
        s.scu.position.place.map Place.song = some 12 ∧ s.pdu.queues.length = 14 ∧ s.pdu.closures.length = 14 ∧
        (∀ a ∈ s.queue 9, a.station = 9) ∧ s.segment = some (seg 40 16 4 2 none false) ∧
        (landAtGo s (seg 40 16 4 2 none false) ⟨12, 54, 1, 1⟩ .nextBar) = (.nextDownbeat, 2000000)) ∧
      ((patchCue .absent []).station 9).state = .absent ∧ (patchCue .ready full).queue 9 = full ∧
      (patchCue .ready both).queue 9 = [] ++ downbeatEntry 0 3 :: [downbeatEntry 1 4] ∧
      (patchCue .ready []).queue 9 = [] := by
  refine ⟨fun s hs => ⟨?_, ?_⟩, by decide +kernel⟩
  · simp only [List.mem_cons, List.not_mem_nil, or_false] at hs
    rcases hs with rfl | rfl | rfl | rfl <;> exact completes_of_idle _ _ _ _ rfl rfl
  · revert s; decide +kernel

theorem witness_StandbyAndVampExitSetTheirMark :
    Completes .stage 2 [1, 0, 170] [1, 0, 170] (oneCue .dark) ∧
      ((oneCue .dark).store.cue 170).isSome = true ∧ Completes .podium 8 [] [] (at_ .running 5 9 1 1 1 (stored 0)) ∧
      (at_ .running 5 9 1 1 1 (stored 0)).segment.map Segment.vamp = some true :=
  ⟨completes_of_idle _ _ _ _ rfl rfl, by decide +kernel, completes_of_idle _ _ _ _ rfl rfl, by decide +kernel⟩

/-- A part that resolves for 12/47: GO cue 140 sets station 9 layer 0, POSITION cue 155 lies ahead. -/
def resolving (x : StationState) : State :=
  ((station 9 20000 60 0 (stored 0)).onStation 9 fun r => { r with state := x }).onStore fun t =>
    { t with
      cues := [cue 140 (.go 41) [.patch 9 0 102 .now], cue 155 (.position 48 3 4 false) [.patch 9 0 103 .now]] }

theorem needsChange_resolving : NeedsChange (resolving .ready) 12 47 9 0 102 := by
  refine ⟨.inl ⟨cue 140 (.go 41) [.patch 9 0 102 .now], by simp [resolving, State.onStore], ?_⟩, by decide +kernel⟩
  have last : LastPatch 9 0 102 (cue 140 (.go 41) [.patch 9 0 102 .now]).cue.actions :=
    ⟨[], .now, [], rfl, fun _ _ h => by cases h⟩
  refine ⟨⟨rfl, .inl (by decide), 102, last⟩, last, fun d hd hs => ?_⟩
  simp only [resolving, State.onStore, List.mem_cons, List.not_mem_nil, or_false] at hd
  rcases hd with rfl | rfl
  · exact ⟨.inr ⟨rfl, Nat.le_refl _⟩, fun _ => Nat.le_refl _⟩
  · exact absurd hs.2.1 (by unfold atOrBefore; decide)

theorem witness_ArmSetsThePositionAndResolves :
    (∀ p, Completes .stage 4 p p (stored 0)) ∧ (stored 0).scu.showState = .dark ∧
      (stored 0).store.song 12 = some song12 ∧ song12.lastBar = 96 ∧ (stored 0).store.song 13 = none ∧
      (oneCue .running).scu.showState ≠ .dark ∧ (oneCue .running).scu.showState ≠ .armed ∧
      (∀ x, (∀ p, Completes .stage 4 p p (resolving x)) ∧ (resolving x).scu.showState = .dark ∧
        (resolving x).store.song 12 = some song12 ∧ DispatchInv (resolving x) ∧ TableInv (resolving x) ∧
        (resolving x).cue.hands = [] ∧ (resolving x).pdu.hands = [] ∧ (resolving x).queue 9 = []) ∧
      ((resolving .cut).station 9).state = .cut ∧ ((resolving .ready).station 9).state.joined = true ∧
      NeedsChange (resolving .ready) 12 47 9 0 102 ∧
      (resolving .ready).store.cues[1]? =
        some (cue 155 (.position 48 3 4 false) [.patch 9 0 103 .now]) ∧
      ¬ atOrBefore (48, 3) (47, 1) ∧ song12.segmentAt 48 = some (seg 40 16 4 2 none false) ∧
      (let s := (stored 0).onLku fun k => { k with resetOwed := true }
      (∀ p, Completes .stage 4 p p s) ∧ s.lku.resetOwed = true) :=
  ⟨fun _ => completes_stored .., rfl, by decide +kernel, by decide +kernel, by decide +kernel, by decide, by decide,
    fun x => ⟨fun _ => completes_of_idle _ _ _ _ rfl rfl, rfl, by cases x <;> decide +kernel,
      dispatchInv_of_14 _ (by cases x <;> decide +kernel) (by cases x <;> decide +kernel) (by cases x <;> decide +kernel),
      tableInv_stored _ rfl (by cases x <;> decide +kernel), rfl, rfl, by cases x <;> decide +kernel⟩,
    by decide +kernel, by decide +kernel, needsChange_resolving, rfl, by unfold atOrBefore; decide, by decide +kernel,
    fun _ => ⟨rfl, by decide, fun h => (nomatch h), rfl⟩, rfl⟩

/-- A part armed at 12/47/1. -/
def armed : State := (at_ .armed 12 47 1 1 1 (stored 0)).onScu fun c => { c with armed := some (12, 47) }

theorem witness_CountStartsTheGrid :
    (∀ p, Completes .podium 6 p p armed) ∧ armed.scu.showState = .armed ∧ armed.scu.armed = some (12, 47) ∧
      armed.store.song 12 = some song12 ∧ armed.segment = some (seg 40 16 4 2 none false) ∧
      (seg 40 16 4 2 none false).valid = true ∧ armed.tmu.hands = [] ∧ (stored 0).scu.showState ≠ .armed ∧
      (let s := (at_ .armed 5 1 1 0 1 (stored 20249999)).onTmu fun t => { t with prior := some ⟨20000000, none, none⟩ }
      s.now < timeMax ∧ s.now < 20000000 + 500000 / 2 ∧ s.segment = some ⟨1, 8, 4, 2, none, 400000, 700000, false⟩ ∧
        song5.countIn = 0 ∧ s.tmu.lastBeat = some ⟨20000000, none, none⟩) :=
  ⟨fun _ => completes_of_idle _ _ _ _ rfl rfl, rfl, rfl, by decide +kernel, by decide +kernel, by decide +kernel, rfl,
    by decide, by decide +kernel⟩

/-- A part in HOLD whose Podium line is held active. -/
def heldByLine : State :=
  held.onScu fun c => { c with podiumLine := ⟨true, true, none, 0⟩, stopSet := { podiumLine := true } }

theorem heldByLine_stopInv : StopInv heldByLine := by
  have := held_record
  cases h : held.scu.stopRecord with
  | none => simp [h] at this
  | some r => exact stopInv_of_hold _ (by decide +kernel) r ⟨h, by simpa [h] using this⟩

theorem witness_ResetShowClearsTheShow :
    (Completes .rig 27 [] [] held ∧ StopInv held ∧ held.scu.showState = .hold ∧
      held.scu.stageLine.level = false ∧ held.scu.podiumLine.level = false) ∧
    (Completes .rig 27 [] [] heldByLine ∧ StopInv heldByLine ∧ heldByLine.scu.showState = .hold ∧
      (heldByLine.scu.line .podium).level = true ∧
      ∀ k : StopLine, k ≠ .podium → (heldByLine.scu.line k).level = false) ∧
    (Completes .rig 27 [] [] (stored 0) ∧ StopInv (stored 0) ∧ (stored 0).scu.showState = .dark) ∧
    (Completes .rig 27 [] [] armed ∧ armed.scu.showState ≠ .dark ∧ armed.scu.showState ≠ .hold) := by
  refine ⟨⟨completes_of_room _ _ _ _ (held_room _), held_stopInv, held_hold, by decide +kernel, by decide +kernel⟩,
    ⟨completes_of_room _ _ _ _ (held_room _), heldByLine_stopInv, held_hold, by decide +kernel, fun k => ?_⟩,
    ⟨completes_stored .., ⟨rfl, by decide +kernel, fun _ => rfl, fun h => absurd h (by decide),
      fun _ r h => (nomatch (h : (none : Option StopRecord) = some r)), fun _ => .inl rfl⟩, rfl⟩,
    completes_of_idle _ _ _ _ rfl rfl, by decide, by decide⟩
  cases k <;> decide +kernel

theorem witness_StopEntersHoldOrAddsItsOrigin :
    (Completes .stage 5 [] [] armed ∧ armed.scu.showState ≠ .hold) ∧
      (Completes .podium 5 [] [] held ∧ held.scu.showState = .hold ∧ held.scu.stopSet.has .podiumLink = false) ∧
      (Completes .stage 5 [] [] held ∧ held.scu.stopSet.has .stageLink = true) ∧
      Completes .rig 5 [] [] (stored 0) ∧ Completes .podium 5 [7] [7] (stored 0) :=
  ⟨⟨completes_of_idle _ _ _ _ rfl rfl, by decide⟩,
    ⟨completes_of_room _ _ _ _ (held_room _), held_hold, by decide +kernel⟩,
    ⟨completes_of_room _ _ _ _ (held_room _), by decide +kernel⟩, completes_stored .., completes_stored ..⟩

/-- A part in HOLD with a restart point, a stage-clear and a stop set. -/
def restarting (clear : Bool) (set : StopSet) : State :=
  at_ .hold 12 47 1 1 1 ((stored 0).onScu fun c =>
    { c with restart := some ⟨12, 47, none⟩, stageClear := clear, stopSet := set })

theorem dispatchInv_restarting (clear : Bool) (set : StopSet) : DispatchInv (restarting clear set) :=
  (dispatchInv_of_14 (stored 0) (by decide +kernel) (by decide +kernel) (by decide +kernel) : DispatchInv (stored 0))

theorem witness_ReleaseClearsTheStageAndMayExit :
    (Completes .stage 3 [] [] held ∧ held.scu.showState = .hold ∧
      (held.scu.stopSet.put .stageLink false).isEmpty = true ∧ held.scu.restart = none ∧
      held.scu.heldFrom = some .dark) ∧
    (let s := restarting false { stageLink := true }
    Completes .stage 3 [] [] s ∧ s.scu.showState = .hold ∧ DispatchInv s ∧ s.scu.restart = some ⟨12, 47, none⟩ ∧
      (s.scu.stopSet.put .stageLink false).isEmpty = true) ∧
    ((restarting false { podiumLink := true }).scu.stopSet.put .stageLink false).isEmpty = false ∧
    (Completes .stage 3 [] [] armed ∧ armed.scu.showState ≠ .hold) :=
  ⟨⟨completes_of_room _ _ _ _ (held_room _), held_hold, by decide +kernel, by decide +kernel, by decide +kernel⟩,
    ⟨completes_of_idle _ _ _ _ rfl rfl, rfl, dispatchInv_restarting .., rfl, by decide +kernel⟩, by decide +kernel,
    completes_of_idle _ _ _ _ rfl rfl, by decide⟩

theorem witness_RestartAtNamesTheRestartPoint :
    (∀ p, Completes .podium 7 p p (at_ .hold 12 47 1 1 1 (stored 0))) ∧
      (∃ g, (stored 0).store.song (12 : Byte).toNat = some g ∧ 1 ≤ (96 : BitVec 16).toNat ∧
        (96 : BitVec 16).toNat ≤ g.lastBar) ∧
      (stored 0).store.song (13 : Byte).toNat = none ∧ armed.scu.showState ≠ .hold ∧
      (let s := restarting true { podiumLink := true }
      s.scu.showState = .hold ∧ s.scu.stageClear = true ∧ (s.scu.stopSet.put .podiumLink false).isEmpty = true ∧
        DispatchInv s ∧ ∀ p, Completes .podium 7 p p s) ∧
      (restarting false {}).scu.stageClear = false :=
  ⟨fun _ => completes_of_idle _ _ _ _ rfl rfl, ⟨song12, by decide +kernel⟩, by decide +kernel, by decide,
    ⟨rfl, rfl, by decide +kernel, dispatchInv_restarting .., fun _ => completes_of_idle _ _ _ _ rfl rfl⟩, rfl⟩

theorem witness_TempoOverridesTheSegment :
    (∀ p, Completes .podium 9 p p (at_ .running 12 47 1 1 1 (stored 0))) ∧
      (2000000 : BitVec 32).toNat ≤ 2000000 ∧ 2000000 < (2000001 : BitVec 32).toNat ∧
      (stored 0).tmu.pmin ≤ (stored 0).tmu.pmax ∧ 2 < (3 : Byte).toNat ∧ armed.scu.showState ≠ .running ∧
      (grid .tracking 500000 1000000 (stored 600000)).tmu.nextBeat = some 1000000 :=
  ⟨fun _ => completes_of_idle _ _ _ _ rfl rfl, by decide, by decide, by decide +kernel, by decide, by decide,
    by decide +kernel⟩

theorem witness_HandoverMovesTheActivePodium :
    (∀ p, Completes .podium 10 p p (oneCue .running)) ∧ (1 : Byte).toNat ≤ 1 ∧ 1 < (2 : Byte).toNat ∧
      Podium.b ≠ (oneCue .running).tmu.active ∧ (oneCue .running).scu.showState = .running :=
  ⟨fun _ => completes_of_idle _ _ _ _ rfl rfl, by decide, by decide, by decide, rfl⟩

/-- A capture in TRACKING or FLYWHEEL near the last beat, matched already, with the next one open. -/
def extraAt (x : TempoState) (t : Nat) : State :=
  (grid x 500000 10000000 (stored t)).onTmu fun k => { k with emitted := [⟨9500000, some .matched, none⟩] }

theorem witness_BeatEdgeIsABounceOrIsLogged :
    (let s := (stored 39999).onTmu fun t => { t with lineA := { t.lineA with lastTaken := some 0 } }
    s.inReset = false ∧ (∃ x, (s.tmu.line .a).lastTaken = some x ∧ s.now < x + s.tmu.settings.debounce)) ∧
      (∀ p, ¬ ∃ x, (((stored 0).tmu.line p).lastTaken = some x ∧ (0 : Nat) < x + 40000)) ∧
      Podium.b ≠ (stored 0).tmu.active ∧ (stored 0).tmu.tempo = .idle ∧
      ∀ x ∈ [TempoState.tracking, .flywheel], ∀ t ∈ [9500000, 9750000],
        let s := extraAt x t
        s.tmu.tempo = x ∧ s.tmu.emitted.getLast? = some ⟨9500000, some .matched, none⟩ ∧
          s.tmu.nextBeat = some 10000000 ∧ s.tmu.pendingMark = some .opened ∧
          ((s.now : Int) - 9500000).natAbs ≤ ((s.now : Int) - 10000000).natAbs ∧ Mark.matched ≠ .opened ∧
          (let r := s.onTmu fun k => { k with emitted := [], pendingMark := some .missed }
          r.tmu.tempo = x ∧ r.tmu.emitted.getLast? = none ∧ r.tmu.nextBeat = some 10000000 ∧
            r.tmu.pendingMark = some .missed ∧ r.inReset = false) := by
  refine ⟨⟨rfl, 0, rfl, by decide⟩, ?_, by decide, rfl, by decide +kernel⟩
  rintro p ⟨x, hx, -⟩
  cases p <;> cases hx

theorem witness_MatchedCaptureStepsThePeriod :
    let s : Nat → State := tracking 500000 10000000 9504000;
    (∀ c ∈ [9879000, 9994000], (s c).inReset = false ∧ (s c).tmu.tempo = .tracking ∧
      (s c).tmu.bounces (s c).tmu.active (s c).now = false ∧ (s c).now = c ∧
      (s c).tmu.nearest c = some (true, 10000000, .opened) ∧ (s c).tmu.prevMatched = some 9504000 ∧ 9504000 ≤ c ∧
      (s c).tmu.emitted ≠ [] ∧ c + 2000 < 10000000 ∧
      (s 10000001).tmu.nearest 10000001 = some (true, 10000000, .opened)) ∧
    (∀ r ∈ [0, 1], let f := (grid .flywheel 500000 10000000 (stored 9900000)).onTmu fun t =>
        { t with emitted := [⟨9500000, some .matched, none⟩], reacquire := r };
      f.inReset = false ∧ f.tmu.tempo = .flywheel ∧ f.tmu.bounces f.tmu.active f.now = false ∧
        f.tmu.nearest f.now = some (true, 10000000, .opened) ∧ f.tmu.reacquire = r) ∧
    (let o := (tracking 500000 10000000 9504000 9804000).onTmu fun t =>
        { t with outliers := 2, outlierIntervals := [300000, 300000] };
      o.tmu.settings.reseed ≤ 8 ∧ o.tmu.settings.reseed ≤ o.tmu.outliers + 1 ∧
      ((9804000 - 9504000 : Int) - 500000).natAbs > 500000 * o.tmu.settings.window / 64 ∧
      ∀ x ∈ o.tmu.outlierIntervals ++ [(300000 : Nat)],
        ((x : Int) - (300000 : Nat)).natAbs ≤ 300000 * o.tmu.settings.window / 64) := by
  decide +kernel

/-- The stored part in FIXED with a grid beat due. -/
def beatDueAt (x : ShowState) (bar : Int) (beat : Nat) : State :=
  grid .fixed 500000 1000000 (at_ x 5 bar beat 1 1 (stored 1000000))

/-- The same in another tempo mode, with a handover pending or none, before the first beat of the grid or after it. -/
def inMode (x : TempoState) (n : Option Podium) (first : Bool) (s : State) : State :=
  s.onTmu fun t =>
    { t with
      tempo := x, handover := n, emitted := if first then [] else t.emitted
      pendingMark := if x = .tracking ∨ x = .flywheel then some .opened else none }

/-- R39, R40: a pending handover takes effect at the beat that is a downbeat, and not at one that is none. -/
theorem test_handover_waits_for_the_downbeat :
    ((after .gridBeat (inMode .tracking (some .b) false (beatDueAt .running 9 1))).tmu.active,
      (after .gridBeat (inMode .tracking (some .b) false (beatDueAt .running 9 3))).tmu.active) = (.a, .b) := by
  decide +kernel

theorem witness_GridBeatStepsThePosition :
    (∀ x ∈ [TempoState.fixed, .linked, .tracking, .flywheel], ∀ n ∈ [none, some Podium.b], ∀ first : Bool,
      ∀ u ∈ [beatDueAt .countIn (-1) 1, beatDueAt .countIn (-2) 3, beatDueAt .running 9 1, beatDueAt .running 9 3,
        beatDueAt .running 10 3, beatDueAt .hold 9 1],
      let s := inMode x n first u
      s.inReset = false ∧ s.tmu.tempo = x ∧ x ≠ .idle ∧ s.tmu.waitingLink = none ∧
      s.tmu.nextBeat = some 1000000 ∧ 1000000 ≤ s.now ∧ s.tmu.hands = [] ∧
      s.segment = some ⟨9, 2, 3, 5, some 600000, 400000, 700000, true⟩ ∧
      s.store.song 5 = some song5 ∧ s.tmu.handover = n ∧ s.tmu.emitted.isEmpty = first ∧
      s.scu.position.exitArmed = false) ∧
    (let s := (beatDueAt .running 9 1).onTmu fun t => { t with tempo := .linked, waitingLink := some 1000001 }
    s.inReset = false ∧ s.tmu.tempo = .linked ∧ s.tmu.waitingLink = some 1000001 ∧ s.tmu.pmax < 1000001 ∧
      s.tmu.nextBeat = some 1000000 ∧ s.scu.showState = .running ∧ s.tmu.emitted ≠ [] ∧ s.tmu.hands = [] ∧
      s.scu.position.place = some ⟨5, 9, 1, 1⟩ ∧
      s.segment = some ⟨9, 2, 3, 5, some 600000, 400000, 700000, true⟩ ∧ 1 + 1 ≤ 3) := by
  decide +kernel

theorem witness_GridBeatEndsTheCountInAndTheSong :
    let s := (beatDueAt .countIn (-1) 3).onScu fun c => { c with armed := some (5, 9) }
    let t := grid .fixed 500000 1000000 (at_ .running 12 96 4 2 1 (stored 1000000))
    let moded (x : TempoState) := (grid x 500000 1000000 (at_ .running 12 55 4 1 1 (stored 1000000))).onTmu fun k =>
      { k with waitingLink := some 400000 }
    let song13 : Song := { song5 with number := 13, opening := [⟨9, 1, 7⟩] }
    let u (x : StationState) := ((station 9 20000 60 0 t).onStation 9 fun r => { r with state := x }).onStore fun k =>
      { k with songs := k.songs.set 12 (some song13) }
    (s.scu.armed = some (5, 9) ∧ song5.segmentIndex 9 = some 1 ∧ s.tmu.emitted ≠ [] ∧
      s.segment = some ⟨9, 2, 3, 5, some 600000, 400000, 700000, true⟩) ∧
    (t.tmu.hands = [] ∧ t.segment = some (seg 56 41 4 2 none false) ∧ t.tmu.emitted ≠ [] ∧
      song12.segments[3]? = none ∧ song12.segue = some 13 ∧ t.store.song 13 = none) ∧
    (let v := grid .fixed 500000 1000000 (at_ .running 12 55 4 1 1 (stored 1000000))
    v.segment = some (seg 40 16 4 2 none false) ∧ song12.segments[1 + 1]? = some (seg 56 41 4 2 none false) ∧
      ((40 + 16 - 1 : Nat) : Int) < 55 + 1) ∧
    (∀ x ∈ [TempoState.fixed, .tracking, .flywheel, .linked], (moded x).tmu.tempo = x ∧ x ≠ .idle ∧
      (moded x).tmu.waitingLink = some 400000 ∧ (moded x).segment = some (seg 40 16 4 2 none false) ∧
      (moded x).tmu.nextBeat = some 1000000 ∧ (moded x).tmu.emitted ≠ [] ∧
      ∀ n ∈ [none, some Podium.b], let v := (moded x).onTmu fun k => { k with handover := n }
        v.tmu.handover = n ∧ v.tmu.hands = []) ∧
    (∀ x ∈ [StationState.cut, .ready], (u x).store.song 13 = some song13 ∧ (u x).cue.hands = [] ∧
      (u x).pdu.hands = [] ∧ (u x).pdu.queues.length = 14 ∧ ((u x).station 9).state = x ∧ (u x).queue 9 = [] ∧
      (u x).segment = some (seg 56 41 4 2 none false)) ∧
    (song13.segmentIndex 1 = some 0 ∧ song13.segments[0]? = some ⟨1, 8, 4, 2, none, 400000, 700000, false⟩ ∧
      StationState.ready.joined = true) := by decide +kernel

theorem witness_MissedBeatCountsTowardFlywheel :
    let s := (grid .tracking 500000 41000000 (stored 40750000)).onTmu fun t =>
      { t with emitted := [⟨40500000, some .opened, some 40750000⟩], misses := 3 }
    s.tmu.emitted = [] ++ ⟨40500000, some .opened, some 40750000⟩ :: [] ∧ 40750000 ≤ s.now ∧ s.now < timeMax ∧
      s.tmu.tempo = .tracking ∧ s.tmu.settings.cut ≤ s.tmu.misses + 1 ∧ s.tmu.misses < 16 ∧
      (let u (x : Option Mark) : State := (grid .tracking 500000 20150000 (stored 20250000)).onTmu fun t =>
        { t with emitted := [], prior := some ⟨20000000, x, some 20250000⟩ }
      ∀ x ∈ [some Mark.opened, some .matched], (u x).tmu.prior = some ⟨20000000, x, some 20250000⟩ ∧
        20250000 ≤ (u x).now ∧ (u x).now < timeMax) := by decide +kernel

theorem witness_PanicListTakesAndDropsEntries :
    (let s := (stored 0).onPbc fun b => { b with reports := [(14, .panic 8)] }
    s.inReset = false ∧ s.pbc.reports = (14, .panic 8) :: []) ∧
    (∀ p, Completes .podium 11 p p (panics [(14, 8)] (stored 0)) ∧ Completes .podium 12 p p (stored 0)) ∧
    (∃ e ∈ (panics [(14, 8)] (stored 0)).vu.panic, e.station = (14 : Byte).toNat ∧ e.player = (8 : Byte).toNat) :=
  ⟨⟨rfl, rfl⟩, fun _ => ⟨completes_of_idle _ _ _ _ rfl rfl, completes_stored ..⟩, _, List.mem_singleton_self _, rfl, rfl⟩

theorem witness_StoreWritesNeedStateAndLock :
    let l := (stored 0).onStore fun t => { t with locked := true }
    (∀ c p, Completes .rig c p p armed ∧ Completes .rig c p p l) ∧
      (armed.scu.showState ≠ .dark ∧ armed.scu.showState ≠ .hold) ∧ l.scu.showState = .dark ∧
      l.store.locked = true ∧ (songOperand song5.bytes).isSome = true ∧
      (cueOperand (cue 170 (.go 54) [.patch 9 0 42 .now]).cue.bytes).isSome = true :=
  ⟨fun _ _ => ⟨completes_of_idle _ _ _ _ rfl rfl, completes_of_idle _ _ _ _ rfl rfl⟩, by decide, rfl, rfl,
    by decide +kernel, by decide +kernel⟩

/-- Song 5's records are in range (R23). -/
theorem song5_inRange : SongInRange song5 := by
  refine ⟨by decide, by decide, by decide, fun x h => ?_, fun j a b ha hb => ?_, fun x h => ?_, ?_, by decide, by decide,
    by decide, List.Pairwise.nil⟩
  · cases h; rfl
  · match j with
    | 0 => cases ha; cases hb; rfl
    | 1 => cases ha; cases hb; rfl
    | j + 2 => simp [song5] at hb
  · cases h; decide
  · simp [song5]

theorem witness_SongWritesReplaceOneRecord :
    (stored 0).store.locked = false ∧ (stored 0).store.songs.length = 64 ∧ (stored 0).scu.showState = .dark ∧
      songOperand song5.bytes = some (true, song5) ∧ SongInRange song5 ∧
      songOperand { song5 with countIn := 3 }.bytes = some (true, { song5 with countIn := 3 }) ∧
      ¬ SongInRange { song5 with countIn := 3 } ∧
      (∀ p, Completes .rig 16 p p (stored 0) ∧ Completes .rig 17 p p (stored 0)) ∧
      (stored 0).store.cues = [] ∧
      (∃ e ∈ (oneCue .dark).store.cues, e.cue.song = 12 ∧ ¬ CueFits { song5 with number := 12 } e.cue) ∧
      holdsSong 5 (stored 0) = false ∧ (stored 0).store.segmentsBut 5 + song5.segments.length ≤ 1024 ∧
      (stored 0).store.song 5 ≠ none ∧ (stored 0).store.song 64 = none ∧
      holdsSong 12 ((at_ .hold 12 47 1 1 1 (stored 0)).onScu fun c =>
        { c with stopRecord := some ⟨1, .stageLink, .song, 0, default, .running, none⟩ }) = true :=
  ⟨rfl, rfl, rfl, by decide +kernel, song5_inRange, by decide +kernel, fun h => absurd h.2.2.2.2.2.2.2.1 (by decide),
    fun _ => ⟨completes_stored .., completes_stored ..⟩, rfl,
    ⟨_, List.mem_singleton_self _, rfl, fun h => absurd h.2 (by decide)⟩, by decide +kernel, by decide +kernel,
    by decide +kernel, by decide +kernel, by decide +kernel⟩

theorem witness_RecordWritesReplaceOneRecord :
    let s := stored 0
    s.store.locked = false ∧ s.scu.showState = .dark ∧ s.store.patterns.length = 16 ∧
      s.store.laneBases.length = 16 ∧ s.clu.lanes.length = 16 ∧ s.store.feedBases.length = 6 ∧
      s.vu.feeds.length = 6 ∧ (∀ c p, Completes .rig c p p s) ∧ (15 : Byte).toNat ≤ 15 ∧
      (8 : Byte).toNat ∈ [1, 2, 3, 4, 6, 8] ∧
      ((0 * 256 + 1) * 256 + (0x38 : Byte).toNat) * 256 + (0x80 : Byte).toNat = 80000 :=
  ⟨rfl, rfl, by decide, by decide, by decide, by decide, by decide, fun _ _ => completes_stored .., by decide, by decide,
    by decide⟩

theorem witness_CueWritesAddOrRemoveOneEntry :
    let s := oneCue .dark
    let c : Cue := ⟨9999, 12, .go 96, [.vampExit]⟩
    s.store.locked = false ∧ s.scu.showState = .dark ∧ cueOperand c.bytes = some (true, c) ∧
      (∀ e ∈ s.store.cues, e.cue.id ≠ c.id) ∧ (∀ a ∈ c.actions, ActionInRange a) ∧ CueFits song12 c ∧
      ¬ ActionInRange (.lane 1 true none) ∧ ¬ CueFits song12 ⟨1, 12, .position 40 1 1 false, []⟩ ∧
      s.store.song 12 = some song12 ∧ s.store.cues.length < 512 ∧
      (∀ n p, Completes .rig n p p s) ∧ s.store.cue 170 = some (cue 170 (.go 54) [.patch 9 0 42 .now]) ∧
      s.store.cue 1 = none := by
  refine ⟨rfl, rfl, by decide +kernel, by decide +kernel, fun a ha => ?_, ⟨by decide, by decide +kernel⟩,
    fun h => absurd h.2.1 (by decide), fun h => ?_, by decide +kernel, by decide +kernel,
    fun _ _ => completes_of_idle _ _ _ _ rfl rfl, by decide +kernel, by decide +kernel⟩
  · obtain rfl := List.mem_singleton.1 ha
    trivial
  · obtain ⟨-, -, x, hx, -, -, -, hl⟩ := h
    rw [show song12.segmentAt 40 = some (seg 40 16 4 2 none false) by decide +kernel] at hx
    cases hx
    exact absurd hl (by decide)

theorem witness_RosterWriteDropsStations :
    let s := station 14 20000 60 0 (stored 0)
    s.store.locked = false ∧ s.scu.showState = .dark ∧ s.pbc.stations.length = 14 ∧ s.pdu.queues.length = 14 ∧
      (∀ n ∈ upTo 14, ∀ e ∈ s.queue n, e.station = n) ∧
      Completes .rig 21 (be 1 2 ++ [1, 14]) (be 1 2 ++ [1, 14]) s ∧
      ((∀ a ∈ ([1, 14] : List Byte), 1 ≤ a.toNat ∧ a.toNat ≤ 14) ∧ ([1, 14] : List Byte).Nodup) ∧
      ¬ (∀ a ∈ ([15] : List Byte), 1 ≤ a.toNat ∧ a.toNat ≤ 14) ∧
      (DispatchInv owing ∧ 9 ∈ owing.store.roster ∧ owing.scu.showState = .dark ∧ owing.store.locked = false ∧
        Completes .rig 21 (be 1 2 ++ [1, 14]) (be 1 2 ++ [1, 14]) owing) :=
  ⟨rfl, rfl, by decide, by decide, by decide +kernel, completes_of_idle _ _ _ _ rfl rfl, by decide, by decide,
    dispatchInv_owing, by decide +kernel, rfl, rfl, completes_of_idle _ _ _ _ rfl rfl⟩

theorem witness_SealConfirmsTheImage (b b' : Byte) :
    Completes .rig 24 [b, b'] [b, b'] (stored 0) ∧ Completes .rig 24 [b, b'] [b, b'] ((stored 0).onStore fun t =>
      { t with sealedCrc := some 7 }) ∧ Completes .stage 24 [b] [b] (stored 0) :=
  ⟨completes_stored .., completes_of_idle _ _ _ _ rfl rfl, completes_stored ..⟩

theorem witness_BackgroundPassComparesTheImage :
    ((sealed 0).setNow 200000).inReset = false ∧ ((sealed 0).setNow 200000).store.passEnd = some 200000 ∧
      (sealed 0).store.sealedCrc ≠ none ∧
      ((stored 0).store.partBytes (.feed 6))[4]? = some 2 ∧ (2 : Byte) ≠ 3 ∧
      StorePart.feed 6 ∈ (stored 0).store.parts ∧ StorePart.song 12 ∈ (stored 0).store.parts := by decide +kernel

theorem witness_BadFramesGetOneAnswer :
    let s := (stored 0).onLink .rig fun r =>
      { r with recv := .frame, run := some ⟨16, [1]⟩, responses := List.replicate 7 default }
    settled .rig s ∧ s.inReset = false ∧ (s.lku.link .rig).responses.length < 8 ∧ (s.lku.link .rig).recv = .frame ∧
      ((stored 0).lku.link .rig).recv = .hunt := ⟨fun _ => rfl, by decide +kernel⟩

theorem witness_RunsAndBreaksSetReception :
    let s := (stored 0).onLink .rig fun r => { r with run := some ⟨16, List.replicate 2000 0⟩ }
    let d := (stored 0).onLink .rig fun r => { r with discarding := some 16 }
    settled .rig (stored 0) ∧ settled .rig s ∧ settled .rig d ∧
      ((stored 0).lku.link .rig).discarding = none ∧ ((stored 0).lku.link .rig).run = none ∧
      ((stored 0).lku.link .rig).recv = .hunt ∧
      (s.lku.link .rig).run = some ⟨16, List.replicate 2000 0⟩ ∧ (s.lku.link .rig).discarding = none ∧
      (16 : Byte) ≠ 17 ∧ (d.lku.link .rig).discarding = some 16 :=
  ⟨fun _ => rfl, fun _ => rfl, fun _ => rfl, rfl, rfl, rfl, rfl, rfl, by decide, rfl⟩

/-- Raised notices: one masked out, one of a queued kind and subject, one that finds room and one that finds none. -/
theorem witness_RaisedNotices :
    let b : NoticeBody := .station 3 .cut .failure
    let old : Notice := ⟨.station 3 .ready .goodProbes, 0⟩
    let other (n : Nat) : Notice := ⟨.station (n + 4) .ready .goodProbes, 0⟩
    let same (m : Notice) : Bool := m.body.kind == b.kind && m.body.subject == b.subject
    let k (ns : List Notice) : LinkRecord := { (default : LinkRecord) with notices := ns }
    ({ k [] with noticeMask := 0 }).noticeMask.getLsbD b.kind = false ∧ (k []).noticeMask.getLsbD b.kind = true ∧
      (k [other 0, old, other 1]).notices = [other 0] ++ old :: [other 1] ∧ same old = true ∧
      [other 0, other 1].all (fun m => !same m) = true ∧ ((List.range 16).map other).all (fun m => !same m) = true ∧
      ((List.range 16).map other).length = 16 ∧
      (stored 0).lku.current.getLsbD Cond.storeUnsealed.id ≠ false ∧
      (stored 0).lku.current.getLsbD Cond.storeUnsealed.id = true := by decide +kernel

theorem witness_FreeTransmitSideSendsTheOldest :
    let s := (stored 5).onLink .stage fun r => { r with responses := [default] }
    let n := (stored 5).onLink .stage fun r => { r with notices := [⟨.station 1 .cut .cut, 0⟩] }
    let b := (stored 5).onLink .stage fun r => { r with tx := some ⟨[], 6, false⟩ }
    (∀ x, (s.lku.link .stage).tx = some x → x.endTime ≤ s.now ∧ x.reboots = false) ∧
      (s.lku.link .stage).responses = default :: [] ∧
      (n.lku.link .stage).responses = [] ∧ (n.lku.link .stage).notices = ⟨.station 1 .cut .cut, 0⟩ :: [] ∧
      (b.lku.link .stage).tx = some ⟨[], 6, false⟩ ∧ b.now < 6 ∧ b.now < timeMax :=
  ⟨fun _ h => (Option.some_ne_none _ h.symm).elim, rfl, rfl, rfl, rfl, by decide, by decide⟩

theorem witness_BeatSchedulesClicks :
    (∃ g d, clicking.inReset = false ∧ clicking.clu.hands = .beat g :: [] ∧ g.position.place = some d ∧
      clicking.clu.lanes.length = 16 ∧ g.showState = .running ∧ clicking.now < timeMax ∧
      (∀ n ∈ clicking.clu.lanes, n.schedule = []) ∧ (clicking.lane 4).muted = false ∧
      clicking.store.segmentOf d = some (seg 40 16 4 2 none false) ∧ (clicking.lane 2).muted = true ∧
      g.time + (clicking.lane 1).offset ≤ clicking.now ∧ (clicking.laneBase 7).weak = 0 ∧
      0 < g.period / (clicking.laneBase 4).subdivision) ∧
    (let g : GridBeat := ⟨8, 24050000, 500000, .dark, ⟨some ⟨12, 96, 4, 2⟩, 1, false, 0⟩, false, false, false⟩
    let s := (clicking.onLane 4 fun l => { l with schedule := [⟨24060000, false, 1, 10⟩, ⟨24200000, false, 1, 10⟩] }).onClu
      fun c => { c with hands := [.beat g] }
    s.clu.hands = .beat g :: [] ∧ g.showState = .dark ∧ (s.lane 4).ascending ∧ (s.lane 4).offset = 51000) := by
  refine ⟨⟨_, _, rfl, rfl, rfl, ?_⟩, by unfold Lane.ascending; decide +kernel⟩
  decide +kernel

theorem witness_BeatRecomputesLands :
    let g (x : ShowState) : GridBeat :=
      ⟨2, 30997000, 497500, x, ⟨some ⟨12, 49, 3, 1⟩, 1, false, 0⟩, false, false, false⟩
    let s (x : ShowState) : State := (grid .tracking 497500 31494500 (patching .queued 32000000 30997000)).onPdu fun d =>
      { d with hands := [.beat (g x)] }
    let t (x : ShowState) : State := (s x).onQueue 6 fun q => q.map fun e => { e with form := .nextDownbeat }
    ∀ x ∈ [ShowState.countIn, .running, .dark], (s x).inReset = false ∧ (s x).pdu.hands = .beat (g x) :: [] ∧
      (s x).store.segmentOf ⟨12, 49, 3, 1⟩ = some (seg 40 16 4 2 none false) ∧
      (s x).tmu.nextBeat = some 31494500 ∧ (s x).pdu.queues.length = 14 ∧
      (s x).queue 6 = [{ entry310 .queued 32000000 with landPlace := some ⟨12, 50, 1, 1, 1⟩ }] ∧
      ((t x).queue 6).map (fun e => (e.state, e.form)) = [(.queued, .nextDownbeat)] := by decide +kernel

/-- The part at the delivered beat 5/9/2, where cue 52 of one action fires two beats before its place, with station 6
ready. -/
def firing (a : Action) : State :=
  (station 6 80000 310 0 (at_ .running 5 9 2 1 1 (stored 70600000))).onStore fun t =>
    { t with cues := [⟨⟨52, 5, .position 10 1 2 true, [a]⟩, none, false⟩] }

theorem witness_PositionalFiringRunsTheCuesThatAreDue :
    (let s := (at_ .running 5 9 2 1 1 (stored 0)).onStore fun t =>
      { t with cues := [⟨⟨52, 5, .position 10 1 2 true, [.vampExit]⟩, some 1, false⟩] }
    (s.store.cues.map fun e => e.cue.id).Nodup ∧
      (s.store.cues.map (firesNow s ⟨5, 9, 2, 1⟩ 2) = [true]) ∧
      (s.store.cues.map (firesNow s ⟨5, 9, 2, 1⟩ 1) = [false])) ∧
    (∀ a ∈ [Action.lane 0x8002 true (some 3), .feed 0x42 (some .podium) (some 3), .vampExit, .tempo none,
        .tempo (some 550000), .patch 6 0 7 .atCue],
      let s := firing a
      s.store.cues.filter (firesNow s ⟨5, 9, 2, 1⟩ 1) = [⟨⟨52, 5, .position 10 1 2 true, [a]⟩, none, false⟩] ∧
        s.clu.lanes.length = 16 ∧ s.vu.feeds.length = 6 ∧ s.segment.map Segment.vamp = some true ∧
        s.scu.showState = .running ∧ s.tmu.pmin ≤ s.tmu.pmax ∧
        song5.segmentAt 10 = some ⟨9, 2, 3, 5, some 600000, 400000, 700000, true⟩ ∧
        ((s.station 6).state = .ready ∧ s.pdu.queues.length = 14 ∧ s.queue 6 = [])) := by decide +kernel

/-- The part with one hand-over waiting at the CLU and at each block of a list, a RESET_SHOW's response owed or not. -/
def handing (x : HandOver) (owed : Bool) (tmu cue pdu vu : Bool) : State :=
  let at' (b : Bool) : List HandOver := if b then [x] else []
  { stored 0 with
    scu := { (stored 0).scu with showState := .hold }, tmu := { (default : Tmu) with hands := at' tmu }
    clu := { (default : Clu) with hands := [x] }, cue := { (default : CueEngine) with hands := at' cue }
    pdu := { (default : Pdu) with hands := at' pdu }, vu := { (default : Vu) with hands := at' vu }
    lku := { (default : Lku) with resetOwed := owed } }

theorem witness_HoldEntryAndShowResetAreTaken :
    let s := handing (.hold 1 .stageLink) false true true true true
    (s.inReset = false ∧ s.tmu.hands = .hold 1 .stageLink :: [] ∧ s.clu.hands = .hold 1 .stageLink :: [] ∧
      s.cue.hands = .hold 1 .stageLink :: [] ∧ s.pdu.hands = .hold 1 .stageLink :: [] ∧
      s.scu.showState = .hold ∧ s.pdu.queues.length = 14 ∧ (∀ n ∈ upTo 14, s.queue n = []) ∧
      s.vu.hands = .hold 1 .stageLink :: []) ∧
    (let p := (owing.onScu fun c => { c with showState := .hold }).onPdu fun d =>
      { d with hands := [.hold 1 .stageLink] }
    p.inReset = false ∧ p.pdu.hands = .hold 1 .stageLink :: [] ∧ p.scu.showState = .hold ∧
      p.pdu.queues.length = 14 ∧ (∀ n ∈ upTo 14, ∀ e ∈ p.queue n, e.station = n) ∧
      (p.queue 9).map (fun e => (e.state, e.origin)) = [(.queued, .resolution)]) ∧
    (∀ owed : Bool, let h := handing .showReset owed true true true true
      h.lku.resetOwed = owed ∧ h.tmu.hands = [.showReset] ∧ h.cue.hands = [.showReset] ∧
        h.pdu.hands = [.showReset] ∧ h.vu.hands = [.showReset]) ∧
    ((handing .showReset true true false false false).tmu.hands = [.showReset] ∧
      (handing .showReset true false true false false).cue.hands = [.showReset] ∧
      (handing .showReset true false false true false).pdu.hands = [.showReset] ∧
      (handing .showReset true false false false true).vu.hands = [.showReset]) := by decide +kernel

/-- R194: RESET_SHOW's response is formed when the last of the four blocks has taken the reset. -/
theorem test_reset_show_is_answered_last :
    (after .tmuShowReset (handing .showReset true true true false false)).lku.rig.responses = [] ∧
      (after .vuShowReset (handing .showReset true false false false true)).lku.rig.responses.map
        (fun r => (r.code, r.result)) = [(27, .ok)] := by decide +kernel

/-- The part with one station's entry queued and its bus free. -/
def offering (form : LandForm) (x : EntryState) : State :=
  (station 9 20000 60 0 (stored 12000000)).onQueue 9 fun _ =>
    [{ entry310 x 12080060 with station := 9, form := form, cancelPending := x == .acked, cancelOffered := x == .acked }]

/-- R86: at the edge of the send window an entry may be sent, a microsecond before it not, and in HOLD none of origin
CUE. -/
theorem test_send_window_edge :
    let e : Entry := { entry310 .queued 12120061 with station := 9, form := .position }
    let s (t : Nat) (x : ShowState) : State :=
      ((station 9 20000 60 0 (stored t)).onQueue 9 fun _ => [e]).onScu fun c => { c with showState := x }
    MayBeSent (s 12000001 .running) 9 e ∧ ¬ MayBeSent (s 12000000 .running) 9 e ∧
      ¬ MayBeSent (s 12000001 .hold) 9 e ∧ ((s 12000001 .running).offer 9).isSome = true ∧
      (s 12000000 .running).offer 9 = none ∧ (s 12000001 .hold).offer 9 = none := by
  unfold MayBeSent; decide +kernel

theorem witness_ArbiterFollowsItsOrder :
    (State.reset.inReset = false ∧ State.reset.pbc.broadcastDue = true ∧ busIsFree State.reset = true) ∧
    (stored 0).pbc.broadcastDue = false ∧
    (let s := (station 14 0 0 0 (stored 0)).onStation 14 fun r => { r with starved := true }
    ((s.station 14).starved && (s.station 14).state.joined) = true ∧
      ∀ m ∈ upTo 13, (s.station m).starved = false) ∧
    ((offering .now .acked).queue 9).any (fun e => e.isOpen && e.cancelPending && e.cancelOffered) = true ∧
    ((offering .now .queued).offer 9).isSome = true ∧
    probeIsDue ((stored 0).onStation 1 fun r => { r with state := .joining, nextProbe := some 0 }) 1 = true ∧
    recoveryIsDue ((station 14 0 0 0 (stored 0)).onStation 14 fun r => { r with state := .cut, nextPoll := some 0 }) 14 = true ∧
    arbiter (stored 0) = none ∧
    ((∀ e ∈ (offering .now .queued).queue 9, e.station = 9) ∧ (offering .now .queued).now < timeMax) := by decide +kernel

theorem witness_FreeBusSendsTheChosenFrame :
    let s := offering .position .queued
    let ready (s : State) : Prop := s.inReset = false ∧ busIsFree s = true ∧ s.pbc.broadcastDue = false ∧
      s.pbc.stations.length = 14 ∧ (arbiter s).map Candidate.station = some 9 ∧ s.pdu.closures.length = 14 ∧
      (s.queue 9).map Entry.station = [9] ∧ ∀ d ∈ s.queue 9, ∀ e ∈ s.queue 9, d.seq = e.seq → d = e
    (ready s ∧ (s.offer 9).isSome = true ∧ s.now + (s.station 9).lead + (s.station 9).delay ≤ 12080060) ∧
      (ready (s.setNow 12080060) ∧ (s.setNow 12080060).now + 20000 + 60 > 12080060) ∧
      ready (offering .now .queued) ∧
      (ready (offering .now .acked) ∧
        ((arbiter (offering .now .acked)).map fun c => c.frame) = some (.cancel 2 310)) ∧
      (2 * 9 < 2 * 9 + 1 ∧ 2 * 8 + 1 < 2 * 9) ∧ arbiter (stored 0) = none ∧
      (let q (n : Nat) := (stored 5).onPbc fun b => { b with freeAt := 5 + n }
      (q 20).inReset = false ∧ (q 20).now < timeMax ∧ (q 20).pbc.exchange = none ∧ (q 20).pbc.attention = none ∧
        (q 20).now < (q 20).pbc.freeAt ∧ (q 20).pbc.freeAt ≤ (q 20).now + 20 ∧
        ¬ (q 21).pbc.freeAt ≤ (q 21).now + 20) := by decide +kernel

/-- The part with an exchange open on station 9's one entry. -/
def exchanging (f : OutFrame) (x : EntryState) : State :=
  ((station 9 20000 60 0 (stored 100)).onQueue 9 fun _ =>
    [{ entry310 x 100 with station := 9, cancelPending := true, ackDeadline := some 2100 }]).onPbc fun b =>
      { b with exchange := some ⟨9, f, 100, 0⟩ }

/-- An exchange on an entry with a count of resends, found open by a HOLD entry or not. -/
def resending (f : OutFrame) (n : Nat) (held : Bool) : State :=
  (exchanging f .sent).onQueue 9 fun q => q.map fun e => { e with resends := n, cancelResends := n, held := held }

theorem witness_ReplyEndsTheExchange :
    let s := exchanging (.apply 2 310 none) .sent
    (s.inReset = false ∧ s.pbc.stations.length = 14 ∧ s.pdu.queues.length = 14 ∧ s.pdu.closures.length = 14 ∧
      s.pbc.exchange = some ⟨9, .apply 2 310 none, 100, 0⟩ ∧ (s.queue 9).map Entry.station = [9] ∧
      (s.queue 9).map Entry.seq = [0] ∧ (s.queue 9).map Entry.state = [.sent] ∧
      (s.queue 9).map Entry.ackDeadline = [some (100 + 2000)] ∧ 255 < 256 ∧ (1 : Nat) < s.pdu.resendLimit) ∧
    (∀ n ∈ [1, 2], ∀ h : Bool, let r := resending (.apply 2 310 none) n h
      (r.queue 9).map (fun e => (e.state, e.resends, e.held)) = [(.sent, n, h)] ∧ r.scu.showState = .dark ∧
        (r.station 9).state = .ready ∧ r.pdu.resendLimit = 2) ∧
    (∀ x ∈ [(StationState.ready, 0), (.suspect, 1), (.suspect, 2), (.joining, 2)],
      let r := ((resending (.apply 2 310 none) 2 false).onStation 9 fun k => { k with state := x.1, streak := x.2 }).onScu
        fun c => { c with showState := .preparing }
      (r.station 9).state = x.1 ∧ (r.station 9).streak = x.2 ∧ r.scu.showState = .preparing) ∧
    (((exchanging (.cancel 2 310) .acked).queue 9).all (fun e => e.isOpen && e.cancelPending) = true) ∧
    (∀ b : Bool, ∀ x ∈ [StationState.ready, .suspect, .joining, .cut, .absent], ∀ n ∈ [15, 16],
      let p := (((exchanging (.poll b) .acked).onQueue 9 fun _ => []).onStation 9 fun r =>
        { r with state := x, starved := true }).onPbc fun k => { k with reports := List.replicate n (3, .panic 1) }
      p.inReset = false ∧ p.pbc.stations.length = 14 ∧ p.pbc.exchange = some ⟨9, .poll b, 100, 0⟩ ∧
        (p.station 9).state = x ∧ p.queue 9 = [] ∧ 9 ∈ p.store.roster ∧ p.pbc.reports.length = n) := by decide +kernel

/-- R105, R110, R118: a POLL_REPLY of a CUT station polled for recovery enters JOINING; R90: a NAK of an entry that
a HOLD entry found open does not resend it. -/
theorem test_recovery_and_held_nak :
    let p := (exchanging (.poll true) .acked).onStation 9 fun r => { r with state := .cut }
    ((after (.pollReply 9 0 none) p).station 9).state = .joining ∧
      ((after (.nak 9 0) (resending (.apply 2 310 none) 0 true)).queue 9).map Entry.resendDue = [false] := by
  decide +kernel

theorem witness_JoiningStationIsMeasuredAndReady :
    (let s := (station 14 20000 60 0 (stored 0)).onPbc fun b => { b with reports := [(14, .join 200001)] }
    s.inReset = false ∧ s.pbc.stations.length = 14 ∧ s.pdu.queues.length = 14 ∧
      s.pbc.reports = (14, .join 200001) :: [] ∧ 14 ∈ s.store.roster ∧ 13 ∉ s.store.roster ∧
      (s.station 14).state = .ready ∧ s.scu.showState ≠ .hold) ∧
    (∀ x ∈ [(0, none), (3, some 77)], let s := probing 5000000 x.1 x.2
    s.inReset = false ∧ s.pbc.stations.length = 14 ∧ s.pbc.exchange = some ⟨6, .probe, 5000000, 0⟩ ∧
      (s.station 6).state = .joining ∧ (s.station 6).offset = x.2 ∧ (s.station 6).goodProbes = x.1) ∧
    (∀ x ∈ [StationState.cut, .absent], let s := (probing 5000000 0 none).onStation 6 fun r => { r with state := x }
    s.inReset = false ∧ s.pbc.exchange = some ⟨6, .probe, 5000000, 0⟩ ∧ (s.station 6).state = x ∧
      s.pbc.stations.length = 14) := by decide +kernel

theorem witness_ProbeDepthIsALiveSetting :
    (let s := (probing 5000000 3 (some 4)).onPbc fun b => { b with probeDepth := 0 }
    s.inReset = false ∧ s.pbc.exchange = some ⟨6, .probe, 5000000, 0⟩ ∧ s.pbc.stations.length = 14 ∧
      (s.station 6).state.joined = true ∧ (s.station 6).offset = some 4 ∧ s.pbc.probeDepth = 0 ∧
      ((5000400 : Nat) : Int) - 5000000 ≤ 2000) ∧
    (∀ n ∈ [(6 : Byte), 7], Completes .rig 34 [n] [n] (stored 0)) ∧ Completes .podium 34 [3] [3] (stored 0) ∧
    (let s := State.reset.onLink .rig fun k => { k with tx := some ⟨[], 0, true⟩ }
    (s.lku.link .rig).tx = some ⟨[], 0, true⟩ ∧ s.inReset = false) :=
  ⟨by decide +kernel, fun _ _ => completes_stored .., completes_stored .., by decide +kernel⟩

theorem witness_NoReplyIsAFailure :
    (∀ f ∈ [OutFrame.probe, .poll false, .poll true],
      ∀ x ∈ [(StationState.ready, 0), (.suspect, 1), (.suspect, 2), (.joining, 1), (.joining, 2), (.cut, 3)],
      let s := ((exchanging f .acked).onStation 9 fun r => { r with state := x.1, streak := x.2 }).setNow 4100
      let y : Exchange := ⟨9, f, 100, 0⟩
      let lost := s.onPbc fun b =>
        { b with lostWindows := [⟨3, .probe, 4000, 0⟩, y], exchange := some ⟨3, .probe, 4000, 0⟩ }
      s.inReset = false ∧ s.pbc.exchange = some y ∧ s.pbc.lostWindows = [] ∧
        s.pbc.stations.length = 14 ∧ s.pdu.queues.length = 14 ∧ s.now < timeMax ∧
        (∀ n ∈ upTo 14, ∀ e ∈ s.queue n, e.station = n) ∧ (s.station 9).state = x.1 ∧
        (s.station 9).streak = x.2 ∧ 100 + (if f = .probe then 4000 else 2000) ≤ s.now ∧
        lost.pbc.lostWindows = [⟨3, .probe, 4000, 0⟩] ++ y :: [] ∧ lost.now < 4000 + 4000) := by decide +kernel

theorem witness_NoReplyToAnEntry :
    ∀ f ∈ [OutFrame.apply 2 310 none, .cancel 2 310], ∀ n ∈ [1, 2, 3], ∀ h : Bool,
      ∀ x ∈ [(StationState.ready, 0), (.suspect, 1), (.suspect, 2), (.joining, 2)],
      let s := ((resending f n h).setNow 2100).onStation 9 fun k => { k with state := x.1, streak := x.2 }
      s.inReset = false ∧ s.pbc.exchange = some ⟨9, f, 100, 0⟩ ∧ s.pbc.lostWindows = [] ∧
        s.pbc.stations.length = 14 ∧ s.pdu.queues.length = 14 ∧ s.pdu.closures.length = 14 ∧ s.now < timeMax ∧
        (∀ n ∈ upTo 14, ∀ e ∈ s.queue n, e.station = n) ∧ 100 + 2000 ≤ s.now ∧ s.pdu.resendLimit = 2 ∧
        (s.station 9).state = x.1 ∧ (s.station 9).streak = x.2 ∧ s.queue 9 = [{ entry310 .sent 100 with
          station := 9, cancelPending := true, ackDeadline := some (100 + 2000), resends := n, cancelResends := n
          held := h }] := by
  decide +kernel

theorem witness_StationFramesAreTakenOrDiscarded :
    let s := station 14 0 0 0 (stored 0)
    (s.inReset = false ∧ s.pbc.stations.length = 14 ∧ s.pbc.exchange = none ∧ s.store.roster.contains 14 = true ∧
      s.store.roster.contains 1 = false ∧ s.pbc.reports.length < 16 ∧ s.pbc.attention = none) ∧
      (exchanging .probe .acked).pbc.exchange ≠ none ∧
      (s.onPbc fun b => { b with attention := some 14 }).pbc.attention = some 14 ∧
      (let t := s.onPbc fun b => { b with attention := some 3 }
      t.pbc.exchange = none ∧ ¬ (t.pbc.attention = none ∨ t.pbc.attention = some 14)) := by decide +kernel

/-- The part in PREPARING with one RESOLUTION entry on the bus, so many outstanding, and a report of its station. -/
def lastOwed (n : Nat) (x : StationState) (streak : Nat) (r : Report) : State :=
  (((owing.onQueue 9 fun q => q.map fun e => { e with state := .acked }).onPdu fun d => { d with outstanding := n }).onStation
    9 fun k => { k with state := x, streak := streak, patches := List.replicate 8 none }).onPbc (fun b =>
      { b with reports := [(9, r)] }) |>.onScu fun c => { c with showState := .preparing }

/-- R7: the closing of the last outstanding RESOLUTION entry makes PREPARING ARMED, whatever its outcome, and no earlier
one does. -/
theorem test_last_closing_arms :
    (after .doneReport (lastOwed 1 .ready 0 (.done 0 42))).scu.showState = .armed ∧
    (after .faultReport (lastOwed 1 .suspect 2 (.fault 0 42))).scu.showState = .armed ∧
    (after .doneReport (lastOwed 2 .ready 0 (.done 0 42))).scu.showState = .preparing := by decide +kernel

theorem witness_FaultClosesInEveryState :
    ∀ x ∈ [(StationState.ready, 0), (.suspect, 2), (.joining, 1), (.cut, 3)], let s := lastOwed 1 x.1 x.2 (.fault 0 42)
      s.inReset = false ∧ s.pbc.stations.length = 14 ∧ s.pdu.queues.length = 14 ∧ s.pdu.closures.length = 14 ∧
      (s.station 9).patches.length = 8 ∧ (s.station 9).state = x.1 ∧ (s.station 9).streak = x.2 ∧
      (∀ e ∈ s.queue 9, e.station = 9) ∧ (s.queue 9).Nodup ∧ s.pbc.reports = (9, .fault 0 42) :: [] ∧
      (s.queue 9).map (fun e => (e.state, e.layer, e.patch, e.origin)) = [(.acked, 0, 42, .resolution)] := by
  decide +kernel

theorem witness_ReportsAndDeadlinesCloseEntries :
    let q := (station 9 20000 60 0 (stored 60000)).onQueue 9 fun _ =>
      [{ entry310 .acked 100 with station := 9, doneDeadline := some 60000 }]
    let s := (q.onStation 9 fun r => { r with patches := List.replicate 8 none }).onPbc fun b =>
      { b with reports := [(9, .done 2 310)] }
    s.inReset = false ∧ s.pbc.stations.length = 14 ∧ s.pdu.queues.length = 14 ∧ s.pdu.closures.length = 14 ∧
      (s.station 9).patches.length = 8 ∧ (s.station 9).state = .ready ∧
      s.pbc.reports = (9, .done 2 310) :: [] ∧
      (s.queue 9).map (fun e => (e.station, e.isOpen, e.layer, e.patch, e.doneDeadline)) =
        [(9, true, 2, 310, some 60000)] ∧ 60000 ≤ s.now ∧ (s.queue 9).Nodup ∧
      (s.onPbc fun b => { b with reports := [(9, .fault 2 310)] }).pbc.reports = (9, .fault 2 310) :: [] := by
  decide +kernel

theorem witness_ClicksSoundAndBurstsEnd :
    let s := (stored 24111000).onLane 4 fun l =>
      { l with schedule := [⟨24111000, false, 1, 10⟩], burst := some ⟨31, 3, 24111000⟩ }
    s.inReset = false ∧ s.now < timeMax ∧ (s.lane 4).schedule = ⟨24111000, false, 1, 10⟩ :: [] ∧
      24111000 ≤ s.now ∧ (s.setNow 24110999).now < 24111000 ∧ (s.lane 4).burst = some ⟨31, 3, 24111000⟩ := by
  decide +kernel

theorem witness_CamerasTakeTheirFrames :
    let s := (stored 9999).onVu fun v =>
      { v with
        camA := { v.camA with live := true, seen := true, lastStart := some 0, deadline := some 9999 }
        feeds := (v.feeds.set 0 { pending := some .camB }).set 1 { showing := .cam .b, pending := some .camA } |>.set 2
          { showing := .cam .b, pending := some .black } }
    s.inReset = false ∧ (∃ x, (s.vu.cam .a).lastStart = some x ∧ s.now < x + 10000) ∧
      (¬ ∃ x, (s.vu.cam .b).lastStart = some x ∧ s.now < x + 10000) ∧ s.vu.feeds.length = 6 ∧
      (s.feed 6).pending = none ∧ (s.feed 6).showing ≠ .cam .b ∧ (s.vu.cam .a).live = true ∧
      (s.vu.cam .a).deadline = some 9999 ∧ 9999 ≤ s.now ∧ (s.feed 1).pending = some .camB ∧
      (s.feed 1).showing ≠ .cam .b ∧ (s.feed 2).pending = some .camA ∧ (s.feed 2).showing = .cam .b ∧
      (s.feed 3).pending = some .black ∧ (s.feed 3).showing = .cam .b := by
  refine ⟨rfl, ⟨0, rfl, by decide⟩, ?_, by decide +kernel⟩
  rintro ⟨x, hx, -⟩
  cases hx

theorem witness_CamerasAndFeedsTakeTheirFrames :
    (let s := (measuring 0 40000 200000 true).onStore fun t =>
      { t with laneBases := t.laneBases.set 8 ⟨1, 60000, some 4, 10, 20, 31⟩ }
    (s.feed 4).mark = some 0 ∧ s.now - 0 ≤ 200000 ∧ 200000 < (s.setNow 200001).now - 0 ∧ (s.feed 6).mark = none ∧
      s.clu.lanes.length = 16 ∧ (s.laneBase 9).follow = some 4 ∧ (s.lane 9).clamped = false ∧
      80000 < (s.laneBase 9).base + 40000) ∧
    (let s := (stored 20000).onVu fun v =>
      { v with feeds := [{}, { pending := some .black }, { pending := some .camB }, {}, { overlay := 0 }, {}] }
    s.inReset = false ∧ s.now < timeMax ∧ s.vu.feeds.length = 6 ∧ (s.vu.cam .a).live = false ∧
      (s.vu.cam .a).period = none ∧ (s.feed 1).showing = .cam .a ∧ (s.feed 1).lastFrame = none ∧
      (s.feed 1).before = none ∧ 0 + 20000 ≤ s.now ∧ (s.setNow 19999).now < 0 + 20000 ∧
      (s.feed 1).pending = none ∧ (s.feed 2).pending = some .black ∧ (s.feed 3).pending = some .camB ∧
      (s.onCam .b fun c => { c with live := true }).vu.camB.live = true) := by decide +kernel

theorem witness_StopLineSettlesAfterItsHold :
    let s (b : Bool) : State := (stored 2000).onScu fun c => { c with stageLine := ⟨!b, b, some 0, 0⟩ }
    let h (b : Bool) (r : Option Restart) : State := (s b).onScu fun c =>
      { c with
        showState := .hold, restart := r, stageClear := true, stopSet := { stageLine := b }
        stopRecord := some ⟨1, .stageLine, .dark, 0, default, .dark, none⟩ }
    (stored 0).scu.stageLine.since = none ∧
      (∀ b, (s b).inReset = false ∧ (s b).now < timeMax ∧ ((s b).scu.line .stage).since = some 0 ∧
        0 + 2000 ≤ (s b).now ∧ ((s b).scu.line .stage).level = b ∧ (s b).scu.showState ≠ .hold ∧
        ((s b).setNow 1999).now < 0 + 2000) ∧
      (∀ b, ∀ r ∈ [none, some (⟨12, 47, none⟩ : Restart)], (h b r).scu.showState = .hold ∧
        ((h b r).scu.line .stage).since = some 0 ∧ ((h b r).scu.line .stage).level = b ∧
        (h b r).scu.stopSet.has .stageLine = b ∧ ((h b r).scu.stopSet.put .stageLine false).isEmpty = true ∧
        (h b r).scu.stageClear = true ∧ (h b r).scu.restart = r ∧ (h b r).scu.heldFrom = some .dark) ∧
      ((h false none).onScu fun c => { c with stopSet := { stageLine := true } }).scu.stopSet.has .stageLine = true ∧
      ((h true none).onScu fun c => { c with stopSet := { podiumLine := true } }).scu.stopSet.isEmpty = false := by
  decide +kernel

end Sys2Proof.Tests
end

/-! # Beat capture and tempo: the obligations of 03_beat_capture_and_tempo.md -/

/-! ## The queues' invariant alone is not kept

`supersede` puts the new entry into the queue of the superseded entry's own station, which `DispatchInv` makes the queue
that entry was found in, and `QueueInv` does not. -/

namespace Sys2Proof.Machine

/-- An entry of form NOW that names station 2. -/
def entryOfStation2 (patch : Nat) : Entry :=
  { station := 2, layer := 0, patch := patch, origin := .cue, form := .now, landPlace := none, landTime := 0, seq := 0 }

/-- A GO cue that sets a patch on station 1. -/
def cueForStation1 : CueEntry := { cue := ⟨1, 1, .go 1, [.patch 1 0 7 .now]⟩ }

/-- A part whose queues are within their capacities and in order, but where an entry of station 2, whose own queue is
full, stands in the queue of station 1; a GO of a cue that sets a patch on station 1 comes next. -/
def misfiledPart : State :=
  { scu := { showState := .armed }
    store := { cues := [cueForStation1] }
    cue := { goPointer := some 1 }
    pdu := { queues := [entryOfStation2 1] :: List.replicate 8 (entryOfStation2 2) :: List.replicate 12 [] }
    pbc := { stations := { state := .ready } :: List.replicate 13 default }
    pending := [.go .stage [0]] }

theorem misfiledPart_queueInv : QueueInv misfiledPart := by
  refine ⟨fun l => ?_, by decide, by decide, ?_, ?_, by decide, by decide, by decide⟩
  · cases l <;> exact ⟨by decide, by decide, .nil⟩
  · unfold InQueueOrder; decide +kernel
  · unfold Lane.ascending; decide +kernel

/-- The GO supersedes the misfiled entry, and its change joins the full queue of station 2. -/
theorem misfiledPart_step_overfills : ∃ t, step misfiledPart = .next t ∧ ∃ q ∈ t.pdu.queues, q.length = 9 :=
  ⟨_, rfl, by decide +kernel⟩

/-- Refutes O7: its first half supposes `QueueInv` without `DispatchInv`, so that an entry may stand in the queue of
another station than its own, and superseding it makes a queue of 9 entries. -/
theorem not_stepKeepsQueueInvariant : ¬ Obligations.StepKeepsQueueInvariant := by
  rintro ⟨keeps, -⟩
  obtain ⟨t, hstep, q, hq, h9⟩ := misfiledPart_step_overfills
  obtain ⟨-, -, -, hqueues, -⟩ := keeps misfiledPart t misfiledPart_queueInv hstep
  have hle : q.length ≤ 8 := (hqueues q hq).1
  omega

end Sys2Proof.Machine

/-! ## Operands read back and the owner's answer (R176, R184) -/

namespace Sys2Proof.Machine

theorem foldl_be (n v a : Nat) :
    (be n v).foldl (fun x (b : Byte) => x * 256 + b.toNat) a = a * 256 ^ n + v % 256 ^ n := by
  induction n generalizing a with
  | zero => simp [be, Nat.mod_one]
  | succ n ih =>
    have hsplit : v % 256 ^ (n + 1) = v % 256 ^ n + 256 ^ n * (v / 256 ^ n % 256) := by
      rw [pow_succ, Nat.mod_mul]
    simp only [be, List.foldl_cons, ih, BitVec.toNat_ofNat, hsplit]
    ring

@[simp] theorem length_be (n v : Nat) : (be n v).length = n := by
  induction n with
  | zero => rfl
  | succ n ih => simp [be, ih]

/-- A field of `n` bytes reads back what `n` bytes can hold. -/
theorem field_be (n v : Nat) (r : List Byte) : field n (be n v ++ r) = some (v % 256 ^ n, r) := by
  have htake : (be n v ++ r).take n = be n v := List.take_left' (length_be n v)
  have hdrop : (be n v ++ r).drop n = r := List.drop_left' (length_be n v)
  simp [field, htake, hdrop, beVal, foldl_be]

theorem field_byte (b : Byte) (r : List Byte) : field 1 (b :: r) = some (b.toNat, r) := by
  simp [field, beVal]

/-- An optional word of `n` bytes reads back as it was sent. -/
theorem optField_beOpt {w : Nat} (n : Nat) (hw : 2 ^ w = 256 ^ n) (m : Option (BitVec w)) (r : List Byte) :
    optField n (beOpt (fun x : BitVec w => be n x.toNat) m ++ r) = some (m.map BitVec.toNat, r) := by
  cases m with
  | none => simp [optField, beOpt, field_be]
  | some x =>
    have hx : x.toNat % 256 ^ n = x.toNat := Nat.mod_eq_of_lt (hw ▸ x.isLt)
    simp [optField, beOpt, List.append_assoc, field_be, hx]

theorem oneByte_byte (b : Byte) : oneByte [b] = some b.toNat := by simp [oneByte, field_byte, whole]

theorem bytePair_bytes (a b : Byte) : bytePair [a, b] = some (a.toNat, b.toNat) := by
  simp [bytePair, field_byte, whole]

theorem estimatorOperand_bytes (d w rs k nc b3 b2 b1 b0 : Byte) :
    estimatorOperand [d, w, rs, k, nc, b3, b2, b1, b0] =
      some ⟨d.toNat, w.toNat, rs.toNat, k.toNat, nc.toNat,
        ((b3.toNat * 256 + b2.toNat) * 256 + b1.toNat) * 256 + b0.toNat⟩ := by
  have hdeb : field 4 [b3, b2, b1, b0] =
      some (((b3.toNat * 256 + b2.toNat) * 256 + b1.toNat) * 256 + b0.toNat, []) := by simp [field, beVal]
  simp [estimatorOperand, field_byte, hdeb, whole]

theorem maskOperands_beOpt (e w n : Option Mask) :
    maskOperands (beOpt (fun x : Mask => be 2 x.toNat) e ++ beOpt (fun x : Mask => be 2 x.toNat) w ++
      beOpt (fun x : Mask => be 2 x.toNat) n) = some (e, w, n) := by
  have hn := optField_beOpt (w := 16) 2 rfl n []
  rw [List.append_nil] at hn
  simp [maskOperands, List.append_assoc, optField_beOpt (w := 16) 2 rfl, hn, whole, Option.map_map,
    Function.comp_def]

/-- A completed request that its link may make, with operands its owner reads, is answered as the owner says. -/
theorem live_request_answered {α : Type} {l : Link} {c : Nat} {p whole : List Byte} {s : State}
    (h : Completes l c p whole s) {rights : Link → Bool} {parse : List Byte → Option α}
    {owner : α → State → Answer} {a : α} (hr : rights l = true) (ha : parse whole = some a) :
    live (request l c rights parse owner p) s =
      .next (answer l c (owner a (taken l s)).2.1 (owner a (taken l s)).2.2 (owner a (taken l s)).1) := by
  rw [live_next _ _ h.1]
  exact congrArg _ (requestWith_answered h hr ha)

end Sys2Proof.Machine

/-! ## Live settings and the lock (R58, R89, R181, R192) -/

namespace Sys2Proof.Machine

theorem within_eq_true {lo hi x : Nat} : within lo hi x = true ↔ lo ≤ x ∧ x ≤ hi := by simp [within]

theorem Estimator.valid_iff (e : Estimator) :
    e.valid = true ↔ e.depth ≤ 6 ∧ (4 ≤ e.window ∧ e.window ≤ 32) ∧ (2 ≤ e.reseed ∧ e.reseed ≤ 8) ∧ 
      e.gain ≤ 4 ∧ (1 ≤ e.cut ∧ e.cut ≤ 16) ∧ 10000 ≤ e.debounce ∧ e.debounce ≤ 100000 := by
  simp [Estimator.valid, within_eq_true, and_assoc]

theorem toNat_eq_one (b : Byte) : b.toNat = 1 ↔ b = 1 := by
  rw [← BitVec.toNat_inj]; rfl

theorem toNat_eq_zero (b : Byte) : b.toNat = 0 ↔ b = 0 := by
  rw [← BitVec.toNat_inj]; rfl

/-- A set names nothing outside another exactly where each of its bits is one of the other's. -/
theorem maskInside_some (all m : Mask) :
    maskInside all (some m) = true ↔ ∀ b < 16, m.getLsbD b = true → all.getLsbD b = true := by
  have hzero : maskInside all (some m) = true ↔ m &&& ~~~all = 0#16 := by simp [maskInside]
  rw [hzero]
  constructor
  · intro h b hb hm
    have hbit := congrArg (BitVec.getLsbD · b) h
    simpa [hb, hm] using hbit
  · intro h
    refine BitVec.eq_of_getLsbD_eq fun b hb => ?_
    cases hm : m.getLsbD b
    · simp [hm]
    · simp [hm, hb, h b hb hm]

theorem maskInside_conditionMask (m : Option Mask) :
    maskInside conditionMask m = true ↔ m.all (fun x => !x.getLsbD 15) = true := by
  cases m with
  | none => simp [maskInside]
  | some m =>
    have hbits : ∀ b < 16, conditionMask.getLsbD b = decide (b ≠ 15) := by decide
    rw [maskInside_some]
    constructor
    · intro h
      simp only [Option.all_some, Bool.not_eq_true']
      by_contra hm
      exact absurd (h 15 (by omega) (Bool.eq_true_of_not_eq_false hm)) (by decide)
    · intro h b hb hm
      simp only [Option.all_some, Bool.not_eq_true'] at h
      rw [hbits b hb, decide_eq_true_eq]
      rintro rfl
      exact absurd (h.symm.trans hm) (by decide)

theorem maskInside_noticeKindMask (m : Option Mask) :
    maskInside noticeKindMask m = true ↔
      m.all (fun x => (List.range 16).all fun b => !x.getLsbD b || (1 ≤ b && b ≤ 10)) = true := by
  cases m with
  | none => simp [maskInside]
  | some m =>
    have hbits : ∀ b < 16, noticeKindMask.getLsbD b = (decide (1 ≤ b) && decide (b ≤ 10)) := by decide
    rw [maskInside_some]
    simp only [Option.all_some, List.all_eq_true, List.mem_range]
    refine forall₂_congr fun b hb => ?_
    rw [hbits b hb]
    cases m.getLsbD b <;> simp

theorem setMasksOwner_eq (l : Link) (e w n : Option Mask) (s : State) :
    setMasksOwner l (e, w, n) s =
      if e.all (fun m => !m.getLsbD 15) = true ∧ w.all (fun m => !m.getLsbD 15) = true ∧
          n.all (fun m => (List.range 16).all fun b => !m.getLsbD b || (1 ≤ b && b ≤ 10)) = true then
        (s.onLink l fun r =>
          { r with eMask := e.getD r.eMask, wMask := w.getD r.wMask, noticeMask := n.getD r.noticeMask }, .ok, [])
      else (s, .range, []) := by
  simp only [setMasksOwner, setMasksStep, plain, Bool.and_eq_true, maskInside_conditionMask,
    maskInside_noticeKindMask, and_assoc]
  split <;> rfl

theorem forceEOwner_eq (l : Link) (b : Byte) (s : State) :
    forceEOwner l b.toNat s =
      if b = 1 then (s.onLink l fun r => { r with forceE := true }, .ok, [])
      else if b = 0 then (s.onLink l fun r => { r with forceE := false }, .ok, []) else (s, .range, []) := by
  simp only [← toNat_eq_one, ← toNat_eq_zero]
  unfold forceEOwner plain
  by_cases h1 : b.toNat = 1
  · simp [within, h1]
  · by_cases h0 : b.toNat = 0
    · simp [within, h0]
    · have hout : ¬ b.toNat ≤ 1 := by omega
      simp [within, h1, h0, hout]

theorem forceWOwner_eq (l : Link) (b : Byte) (s : State) :
    forceWOwner l b.toNat s =
      if b = 1 then (s.onLink l fun r => { r with forceW := true }, .ok, [])
      else if b = 0 then (s.onLink l fun r => { r with forceW := false }, .ok, []) else (s, .range, []) := by
  simp only [← toNat_eq_one, ← toNat_eq_zero]
  unfold forceWOwner plain
  by_cases h1 : b.toNat = 1
  · simp [within, h1]
  · by_cases h0 : b.toNat = 0
    · simp [within, h0]
    · have hout : ¬ b.toNat ≤ 1 := by omega
      simp [within, h1, h0, hout]

/-- Settles O16: each owner's answer by cases of its check. -/
theorem liveSettingsAndLockAreSet : Obligations.LiveSettingsAndLockAreSet := by
  refine ⟨⟨?_, ?_⟩, ?_, ?_⟩
  · intro p d w rs k nc b3 b2 b1 b0 s deb h
    refine (live_request_answered h rfl (estimatorOperand_bytes ..)).trans (congrArg _ ?_)
    simp only [setEstimatorOwner, Estimator.valid_iff, plain]
    split <;> rfl
  · intro p n s h
    refine (live_request_answered h rfl (oneByte_byte n)).trans (congrArg _ ?_)
    simp only [setDispatchOwner, within_eq_true, Nat.zero_le, true_and, plain]
    split <;> rfl
  · intro l p s t mask
    refine ⟨fun b h => ?_, fun b h => ?_, fun e w n h => ?_⟩
    · refine (live_request_answered h rfl (oneByte_byte b)).trans (congrArg _ ?_)
      rw [forceEOwner_eq]
      split
      · rfl
      · split <;> rfl
    · refine (live_request_answered h rfl (oneByte_byte b)).trans (congrArg _ ?_)
      rw [forceWOwner_eq]
      split
      · rfl
      · split <;> rfl
    · refine (live_request_answered h rfl (maskOperands_beOpt e w n)).trans (congrArg _ ?_)
      rw [setMasksOwner_eq]
      split <;> rfl
  · intro p s
    refine ⟨fun h => ?_, fun h => ?_⟩
    · exact live_request_answered (rights := rigOnly) (parse := noOperand) (owner := lockOwner) h rfl rfl
    · refine (live_request_answered (rights := rigOnly) (parse := noOperand) (owner := unlockOwner)
        h rfl rfl).trans (congrArg _ ?_)
      simp only [unlockOwner, taken_frame, plain]
      split <;> rfl

end Sys2Proof.Machine

/-! ## The Tempo Unit's operations on its own state (R42 to R57) -/

namespace Sys2Proof.Machine

/-- Setting the next grid beat sets it now or later, within the time base (R1, R47). -/
theorem Tmu.setNext_eq (now x : Nat) (t : Tmu) :
    t.setNext now x =
      { t with nextBeat := some (max now (min x timeMax)), atOnce := decide (min x timeMax ≤ now) } := by
  unfold Tmu.setNext
  split
  · next h => simp [h]
  · next h => simp [h, Nat.max_eq_right (Nat.le_of_not_le h)]

/-- Moving the next grid beat changes its time and whether it is at once, and nothing else of the Tempo Unit. -/
@[simp] theorem moveNext_tmu (d : Int) (s : State) :
    (moveNext d s).tmu =
      { s.tmu with
        nextBeat := s.tmu.nextBeat.map fun x : Nat => nowOrLater s.now (x + d)
        atOnce := s.tmu.nextBeat.elim s.tmu.atOnce fun x => decide (min (moveTime x d) timeMax ≤ s.now) } := by
  unfold moveNext
  rw [State.onTmu_tmu]
  cases h : s.tmu.nextBeat with
  | none => cases hs : s.tmu; simp_all
  | some x => simp [Tmu.setNext_eq, nowOrLater, moveTime]

@[simp] theorem setPeriod_tmu (x : Nat) (s : State) :
    (setPeriod x s).tmu = { s.tmu with p16 := clampNat (16 * s.tmu.pmin) (16 * s.tmu.pmax) x } := by
  unfold setPeriod
  dsimp only
  split
  · rfl
  · simp

@[simp] theorem setTempo_tmu (x : TempoState) (s : State) :
    (setTempo x s).tmu = { s.tmu with tempo := x } := by
  simp [setTempo]

@[simp] theorem openBeats_tmu (s : State) :
    (openBeats s).tmu =
      { s.tmu with
        pendingMark := some .opened
        prior := if s.tmu.emitted.isEmpty then s.tmu.prior.map (EmittedBeat.opened s s.tmu.period) else s.tmu.prior
        emitted := if s.tmu.emitted.isEmpty then s.tmu.emitted
          else (s.tmu.onLast (EmittedBeat.opened s s.tmu.period)).emitted } := by
  unfold openBeats
  dsimp only [State.onTmu_tmu]
  split
  · rfl
  · rfl

/-- The clamp of a sixteenth-microsecond period is that of the period (R42). -/
theorem clampNat_sixteenths (lo hi x : Nat) : clampNat (16 * lo) (16 * hi) (16 * x) = 16 * clampNat lo hi x := by
  unfold clampNat
  split_ifs <;> omega

/-- With its marks dropped the Tempo Unit has no miss check left (R48). -/
theorem Tmu.dropMarks_unmarked (t : Tmu) :
    ∀ b ∈ t.dropMarks.emitted ++ t.dropMarks.prior.toList, b.check = none ∧ b.mark = none := by
  intro b hb
  simp only [Tmu.dropMarks, List.mem_append, List.mem_map, Option.mem_toList, Option.map_eq_some_iff] at hb
  obtain ⟨a, -, rfl⟩ | ⟨a, -, rfl⟩ := hb <;> exact ⟨rfl, rfl⟩

/-- An answer on a part whose owner kept every other unit and the waiting responses is one response more. -/
theorem answer_answered {l : Link} {c : Nat} {r : Result} {d : List Byte} {s u : State}
    (hu : sameOthers (taken l s) u) (ha : u.answers = (taken l s).answers) :
    Answered l c r d s (answer l c r d u) ∧ sameOthers s (answer l c r d u) ∧
      (answer l c r d u).tmu = u.tmu := by
  have hresp : (u.lku.link l).responses = (s.lku.link l).responses := by
    rw [← taken_responses l l s]
    exact congrFun ha l
  simp only [sameOthers, taken_frame] at hu
  exact ⟨respond_answered l c r d false s u hresp hu.1, by simpa [sameOthers, answer] using hu, by simp [answer]⟩

/-- A completed request is answered as its owner answers it on the part as taken. -/
theorem live_request_of_owner {α : Type} {l : Link} {c : Nat} {p whole : List Byte} {s u : State}
    (h : Completes l c p whole s) {rights : Link → Bool} {parse : List Byte → Option α}
    {owner : α → State → Answer} {a : α} {r : Result} {d : List Byte} (hr : rights l = true) (ha : parse whole = some a)
    (ho : owner a (taken l s) = (u, r, d)) :
    live (request l c rights parse owner p) s = .next (answer l c r d u) := by
  rw [live_request_answered h hr ha, ho]

end Sys2Proof.Machine

/-! ## TEMPO (R42, R44) -/

namespace Sys2Proof.Machine

theorem tempoOperands_bytes (mode : Byte) (period : Option (BitVec 32)) :
    tempoOperands (mode :: beOpt (fun x : BitVec 32 => be 4 x.toNat) period) =
      some (mode.toNat, period.map BitVec.toNat) := by
  have hperiod := optField_beOpt (w := 32) 4 rfl period []
  rw [List.append_nil] at hperiod
  simp [tempoOperands, field_byte, hperiod, whole]

theorem tempoPeriod_some {x : Nat} (hlo : 200000 ≤ x) (hhi : x ≤ 2000000) : tempoPeriod (some x) = some x := by
  simp [tempoPeriod, within_eq_true, Config.periodMin, Config.periodMax, hlo, hhi]

/-- No usable period: none came, or one out of range (R44). -/
theorem tempoPeriod_eq_none {period : Option (BitVec 32)}
    (h : period = none ∨ ∃ x, period = some x ∧ (x.toNat < 200000 ∨ 2000000 < x.toNat)) :
    tempoPeriod (period.map BitVec.toNat) = none := by
  obtain rfl | ⟨x, rfl, hx⟩ := h
  · rfl
  · have hout : ¬ (200000 ≤ x.toNat ∧ x.toNat ≤ 2000000) := by omega
    simp [tempoPeriod, within_eq_true, Config.periodMin, Config.periodMax, hout]

/-- TEMPO in RUNNING with no period where its mode needs one, or with a mode out of the three, is RANGE (R44). -/
theorem tempoOwner_range {m : Nat} {p : Option Nat} {s : State} (hrun : s.scu.showState = .running)
    (h : 2 < m ∨ m ≠ 0 ∧ tempoPeriod p = none) : tempoOwner (m, p) s = (s, .range, []) := by
  simp only [tempoOwner, hrun, if_true]
  split
  · omega
  · next h1 hp => simp_all
  · next h2 hp => simp_all
  · rfl

theorem tempoOwner_follow {p : Option Nat} {s : State} (hrun : s.scu.showState = .running) :
    tempoOwner (0, p) s = (tempoFollow s, .ok, []) := by
  simp [tempoOwner, hrun, plain]

theorem tempoOwner_fixed {x : Nat} {s : State} (hrun : s.scu.showState = .running) (hlo : 200000 ≤ x)
    (hhi : x ≤ 2000000) : tempoOwner (1, some x) s = (tempoFixed x s, boundResult x s, []) := by
  simp [tempoOwner, hrun, tempoPeriod_some hlo hhi, plain]

theorem tempoOwner_link {x : Nat} {s : State} (hrun : s.scu.showState = .running) (hlo : 200000 ≤ x)
    (hhi : x ≤ 2000000) : tempoOwner (2, some x) s = (tempoLink x s, boundResult x s, []) := by
  simp [tempoOwner, hrun, tempoPeriod_some hlo hhi, plain]

/-- FOLLOW keeps FLYWHEEL, and is TRACKING otherwise, with period and grid kept (R44). -/
theorem tempoFollow_tmu (s : State) :
    (tempoFollow s).tmu.tempo = (if s.tmu.tempo = .flywheel then .flywheel else .tracking) ∧
      (tempoFollow s).tmu.overridden = true ∧ (tempoFollow s).tmu.waitingLink = none ∧
      (tempoFollow s).tmu.p16 = s.tmu.p16 ∧ (tempoFollow s).tmu.nextBeat = s.tmu.nextBeat ∧
      (tempoFollow s).tmu.beatIndex = s.tmu.beatIndex := by
  simp only [tempoFollow, raiseTempo_frame]
  cases htempo : s.tmu.tempo <;> simp [Tmu.follows, Tmu.clearEstimator, htempo]

/-- FIXED stands at its clamped period, and the next grid beat moves by the change (R44). -/
theorem tempoFixed_tmu (x : Nat) (s : State) :
    (tempoFixed x s).tmu.tempo = .fixed ∧ (tempoFixed x s).tmu.p16 = 16 * clampNat s.tmu.pmin s.tmu.pmax x ∧
      (tempoFixed x s).tmu.overridden = true ∧ (tempoFixed x s).tmu.waitingLink = none ∧
      (tempoFixed x s).tmu.prevMatched = none ∧
      (tempoFixed x s).tmu.emitted = s.tmu.clearEstimator.dropMarks.emitted ∧
      (tempoFixed x s).tmu.prior = s.tmu.clearEstimator.dropMarks.prior ∧
      (tempoFixed x s).tmu.nextBeat = s.tmu.nextBeat.map fun n : Nat =>
        nowOrLater s.now (n + (clampNat s.tmu.pmin s.tmu.pmax x - (s.tmu.p16 / 16 : Nat))) := by
  simp [tempoFixed, Tmu.clearEstimator, Tmu.dropMarks, clampNat_sixteenths, Tmu.period]

/-- LINK waits with its period, P16 and the grid kept (R44, R45). -/
theorem tempoLink_tmu (x : Nat) (s : State) :
    (tempoLink x s).tmu =
      { s.tmu.clearEstimator.dropMarks with tempo := .linked, overridden := true, waitingLink := some x } := by
  simp [tempoLink]

theorem tempoFollow_sameOthers (s : State) : sameOthers s (tempoFollow s) := by simp [sameOthers]
theorem tempoFixed_sameOthers (x : Nat) (s : State) : sameOthers s (tempoFixed x s) := by simp [sameOthers]
theorem tempoLink_sameOthers (x : Nat) (s : State) : sameOthers s (tempoLink x s) := by simp [sameOthers]

/-- The answer to TEMPO, where its owner changes the Tempo Unit alone. -/
theorem exec_tempo {p : List Byte} {mode : Byte} {period : Option (BitVec 32)} {s u : State} {r : Result}
    (h : Completes .podium 9 p (mode :: beOpt (fun x : BitVec 32 => be 4 x.toNat) period) s)
    (ho : tempoOwner (mode.toNat, period.map BitVec.toNat) (taken .podium s) = (u, r, [])) :
    exec (.tempo .podium p) s = .next (answer .podium 9 r [] u) :=
  live_request_of_owner (rights := podiumOnly) h rfl (tempoOperands_bytes mode period) ho

/-- Settles O29, by the show state and then by the mode. -/
theorem tempoOverridesTheSegment : Obligations.TempoOverridesTheSegment := by
  intro p mode period s h
  refine ⟨fun hstate => ?_, fun hrun => ?_⟩
  · exact exec_tempo h (by simp [tempoOwner, hstate, plain])
  have hrun' : (taken .podium s).scu.showState = .running := by simpa using hrun
  have hbound (x : Nat) : boundResult x (taken .podium s) = boundResult x s := by simp [boundResult]
  refine ⟨fun hbad => ?_, ?_, fun x hx hlo hhi => ⟨?_, ?_⟩⟩
  · have hrange : 2 < mode.toNat ∨ mode.toNat ≠ 0 ∧ tempoPeriod (period.map BitVec.toNat) = none :=
      hbad.imp_right fun ⟨hmode, hperiod⟩ => ⟨by rwa [ne_eq, toNat_eq_zero], tempoPeriod_eq_none hperiod⟩
    exact exec_tempo h (tempoOwner_range hrun' hrange)
  · rintro rfl
    obtain ⟨hans, hothers, htmu⟩ := answer_answered (l := .podium) (c := 9) (r := .ok) (d := [])
      (tempoFollow_sameOthers (taken .podium s)) (by simp)
    have hfollow := tempoFollow_tmu (taken .podium s)
    simp only [taken_frame] at hfollow
    obtain ⟨htempo, hover, hwait, hp16, hnext, hidx⟩ := hfollow
    refine ⟨_, exec_tempo h (tempoOwner_follow hrun'), hans, ?_⟩
    rw [htmu]
    exact ⟨htempo, hover, hwait, hp16, hnext, hidx, hothers⟩
  · rintro rfl -
    subst hx
    obtain ⟨hans, hothers, htmu⟩ := answer_answered (l := .podium) (c := 9) (d := []) (r := boundResult x.toNat s)
      (tempoFixed_sameOthers x.toNat (taken .podium s)) (by simp)
    have hfixed := tempoFixed_tmu x.toNat (taken .podium s)
    simp only [taken_frame] at hfixed
    obtain ⟨htempo, hp16, hover, hwait, hprev, hemitted, hprior, hnext⟩ := hfixed
    refine ⟨_, exec_tempo h (hbound _ ▸ tempoOwner_fixed hrun' hlo hhi), hans, ?_⟩
    rw [htmu]
    refine ⟨htempo, hp16, hover, hwait, hprev, ?_, fun n hn => ?_, hothers⟩
    · rw [hemitted, hprior]
      exact Tmu.dropMarks_unmarked _
    · rw [hnext, hn, Option.map_some, ← add_sub_assoc]
      rfl
  · rintro rfl
    subst hx
    obtain ⟨hans, hothers, htmu⟩ := answer_answered (l := .podium) (c := 9) (d := []) (r := boundResult x.toNat s)
      (tempoLink_sameOthers x.toNat (taken .podium s)) (by simp)
    refine ⟨_, exec_tempo h (hbound _ ▸ tempoOwner_link hrun' hlo hhi), hans, ?_⟩
    rw [htmu, tempoLink_tmu]
    exact ⟨rfl, rfl, rfl, rfl, rfl, rfl, Tmu.dropMarks_unmarked _, hothers⟩

end Sys2Proof.Machine

/-! ## HANDOVER (R39, R40) -/

namespace Sys2Proof.Machine

theorem handoverOwner_range {a b : Byte} {s : State} (h : 1 < a.toNat ∨ 1 < b.toNat) :
    handoverOwner (a.toNat, b.toNat) s = (s, .range, []) := by
  have hout : ¬ (a.toNat ≤ 1 ∧ b.toNat ≤ 1) := by omega
  simp [handoverOwner, within, hout, plain]

/-- A HANDOVER with values of its fields: to the active podium, to the next bar, or at once (R39). -/
theorem handoverOwner_target {a b : Byte} {target : Podium} (s : State)
    (ht : a = 0 ∧ target = .a ∨ a = 1 ∧ target = .b) (hb : b.toNat ≤ 1) :
    handoverOwner (a.toNat, b.toNat) s =
      if target = s.tmu.active then (s.onTmu fun t => { t with handover := none }, .ok, [])
      else if b = 1 ∧ (s.scu.showState = .countIn ∨ s.scu.showState = .running) then
        (s.onTmu fun t => { t with handover := some target }, .ok, [])
      else (handoverEffect target s, .ok, []) := by
  simp only [← toNat_eq_one b]
  obtain ⟨rfl, rfl⟩ | ⟨rfl, rfl⟩ := ht <;> simp [handoverOwner, within, hb, plain]

/-- Re-routed, a PODIUM feed with no cut waiting shows the active podium's camera (R143). -/
theorem rerouteFeeds_showing (s : State) :
    ∀ f ∈ (rerouteFeeds s).vu.feeds, f.source = .podium → f.pending = none → f.showing = .cam s.tmu.active := by
  intro f hf hsource hpending
  obtain ⟨g, -, rfl⟩ : ∃ g ∈ s.vu.feeds, _ = f := List.mem_map.mp hf
  split at hpending
  · next hreroute =>
    rw [if_pos hreroute]
    by_contra hshow
    simp_all
  · next hkept => simp_all

/-- A handover that takes effect clears the match state and keeps period, grid and bounds (R40). -/
theorem handoverEffect_tmu (p : Podium) (s : State) :
    (handoverEffect p s).tmu = { s.tmu.clearEstimator with active := p, handover := none } := by
  simp [handoverEffect]

theorem handoverEffect_feeds (p : Podium) (s : State) :
    (∀ f ∈ (handoverEffect p s).vu.feeds, f.source = .podium → f.pending = none → f.showing = .cam p) ∧
      { (handoverEffect p s).vu with feeds := s.vu.feeds } = s.vu := by
  refine ⟨?_, rfl⟩
  simpa [handoverEffect] using
    rerouteFeeds_showing (s.onTmu fun t => { t.clearEstimator with active := p, handover := none })

/-- The answer to HANDOVER. -/
theorem exec_handover {p : List Byte} {a b : Byte} {s u : State} {r : Result} (h : Completes .podium 10 p [a, b] s)
    (ho : handoverOwner (a.toNat, b.toNat) (taken .podium s) = (u, r, [])) :
    exec (.handover .podium p) s = .next (answer .podium 10 r [] u) :=
  live_request_of_owner (rights := podiumOnly) h rfl (bytePair_bytes a b) ho

/-- Settles O30, by the branches of R39. -/
theorem handoverMovesTheActivePodium : Obligations.HandoverMovesTheActivePodium := by
  intro p a b s h
  refine ⟨fun hbad => exec_handover h (handoverOwner_range hbad), fun target ht hb => ?_⟩
  have howner := handoverOwner_target (taken .podium s) ht hb
  simp only [taken_frame] at howner
  refine ⟨fun hsame => ?_, fun hother hbar hstate => ?_, fun hother hnow => ?_⟩
  · rw [if_pos hsame] at howner
    exact exec_handover h howner
  · rw [if_neg hother, if_pos ⟨hbar, hstate⟩] at howner
    exact exec_handover h howner
  · have hatOnce : ¬ (b = 1 ∧ (s.scu.showState = .countIn ∨ s.scu.showState = .running)) := by
      rintro ⟨rfl, hstate⟩
      obtain hzero | ⟨hcount, hrun⟩ := hnow
      · exact absurd hzero (by decide)
      · exact hstate.elim hcount hrun
    rw [if_neg hother, if_neg hatOnce] at howner
    obtain ⟨hfeeds, hvu⟩ := handoverEffect_feeds target (taken .podium s)
    have hkept : (handoverEffect target (taken .podium s)).answers = (taken .podium s).answers := by simp
    have hresponses := (congrFun hkept .podium).trans (taken_responses .podium .podium s)
    refine ⟨_, exec_handover h howner, respond_answered _ _ _ _ _ _ _ hresponses (by simp), ?_⟩
    simp only [answer, respond_frame, handoverEffect_tmu, handoverEffect_frame, taken_frame, Tmu.clearEstimator]
    simp only [taken_frame] at hvu
    simpa using ⟨hfeeds, hvu⟩

end Sys2Proof.Machine

/-! ## Latched and captured conditions (R179) -/

namespace Sys2Proof.Machine

/-- A raised event stands latched, and captured on every link (R179). -/
theorem raiseEvent_latched (c : Cond) (s : State) :
    (raiseEvent c s).lku.latched.getLsbD c.id = true ∧
      ∀ l, ((raiseEvent c s).lku.link l).captured.getLsbD c.id = true := by
  have hbit (m : Mask) : (m ||| c.bit).getLsbD c.id = true := by
    have hown : c.bit.getLsbD c.id = true := by cases c <;> decide
    rw [BitVec.getLsbD_or, hown, Bool.or_true]
  have hkeeps (l : Link) := raiseNotice_keeps (.condition c true true true) (s.onLku (Lku.capture c)) l
  refine ⟨(hkeeps .stage).1 c.id (hbit _), fun l => (hkeeps l).2.1 c.id ?_⟩
  cases l <;> exact hbit _

/-- Setting a state condition clears no latched bit and no captured condition. -/
theorem setCondition_keeps (c : Cond) (v : Bool) (s : State) (l : Link) (n : Nat) :
    (s.lku.latched.getLsbD n = true → (setCondition c v s).lku.latched.getLsbD n = true) ∧
      ((s.lku.link l).captured.getLsbD n = true →
        ((setCondition c v s).lku.link l).captured.getLsbD n = true) := by
  unfold setCondition
  split
  · exact ⟨id, id⟩
  · refine ⟨fun h => (raiseNotice_keeps _ _ l).1 n ?_, fun h => (raiseNotice_keeps _ _ l).2.1 n ?_⟩
    · cases v <;> simp [State.onLku, h]
    · cases l <;> exact h

end Sys2Proof.Machine

/-! ## Capture lines and the capture log (R36, R37) -/

namespace Sys2Proof.Machine

/-- A capture line after a taken edge: the edge is its last taken one and the newest of its log (R36, R37). -/
def CaptureLine.took (now : Nat) (e : LogEntry) (l : CaptureLine) : CaptureLine :=
  { l with lastTaken := some now, log := (l.log ++ [e]).drop (l.log.length + 1 - 16) }

/-- The part with an edge taken now on a podium's line. -/
def State.logged (p : Podium) (e : LogEntry) (s : State) : State :=
  s.onTmu (Tmu.onLine p (CaptureLine.took s.now e))

/-- Taking an edge and then entering it in the log is `State.logged`. -/
theorem logEdge_taken (p : Podium) (e : LogEntry) (s : State) :
    logEdge p e (s.onTmu (Tmu.onLine p fun l => { l with lastTaken := some s.now })) = s.logged p e := by
  cases p <;> rfl

@[simp] theorem Tmu.line_onLine (p : Podium) (f : CaptureLine → CaptureLine) (t : Tmu) :
    (t.onLine p f).line p = f (t.line p) := by cases p <;> rfl

theorem Tmu.line_onLine_other {p q : Podium} (h : q ≠ p) (f : CaptureLine → CaptureLine) (t : Tmu) :
    (t.onLine p f).line q = t.line q := by
  cases p <;> cases q
  case a.a | b.b => exact absurd rfl h
  all_goals rfl

/-- The newest entry of a log is the one that joined it last (R37). -/
theorem CaptureLine.took_newest (now : Nat) (e : LogEntry) (l : CaptureLine) :
    (l.took now e).log.getLast? = some e := by
  have hkept : ¬ (l.log ++ [e]).length ≤ l.log.length + 1 - 16 := by simp
  simp only [CaptureLine.took, List.getLast?_drop, if_neg hkept, List.getLast?_concat]

/-- A change of one capture line is nothing to the rest of the Tempo Unit. -/
@[simp] theorem Tmu.onLine_keeps (p : Podium) (f : CaptureLine → CaptureLine) (t : Tmu) :
    (t.onLine p f).p16 = t.p16 ∧ (t.onLine p f).nextBeat = t.nextBeat ∧ (t.onLine p f).correction = t.correction ∧
      (t.onLine p f).tempo = t.tempo ∧ (t.onLine p f).prevMatched = t.prevMatched ∧
      (t.onLine p f).outliers = t.outliers ∧ (t.onLine p f).outlierIntervals = t.outlierIntervals ∧
      (t.onLine p f).misses = t.misses ∧ (t.onLine p f).reacquire = t.reacquire ∧
      (t.onLine p f).emitted = t.emitted ∧ (t.onLine p f).extras = t.extras ∧
      (t.onLine p f).pendingMark = t.pendingMark := by
  cases p <;> exact ⟨rfl, rfl, rfl, rfl, rfl, rfl, rfl, rfl, rfl, rfl, rfl, rfl⟩

theorem Tmu.bounces_iff (t : Tmu) (p : Podium) (now : Nat) :
    t.bounces p now = true ↔ ∃ x, (t.line p).lastTaken = some x ∧ now < x + t.settings.debounce := by
  unfold Tmu.bounces
  cases (t.line p).lastTaken <;> simp

/-- An edge that is no bounce is taken (R36). -/
theorem exec_beatEdge_taken {p : Podium} {s : State} (hreset : s.inReset = false)
    (hb : s.tmu.bounces p s.now = false) : exec (.beatEdge p) s = .next (takeEdge p s) := by
  change live (beatEdgeStep p) s = _
  rw [live_next _ _ hreset, beatEdgeStep, hb]
  rfl

theorem takeEdge_inactive {p : Podium} {s : State} (h : p ≠ s.tmu.active) :
    takeEdge p s = s.logged p ⟨s.now, .inactive, none, none⟩ := by
  have hactive : p ≠ (s.onTmu (Tmu.onLine p fun l => { l with lastTaken := some s.now })).tmu.active := by
    cases p <;> exact h
  rw [takeEdge, if_pos hactive]
  exact logEdge_taken ..

theorem takeEdge_ignored {p : Podium} {s : State} (h : p = s.tmu.active)
    (hf : s.tmu.follows = false) : takeEdge p s = s.logged p ⟨s.now, .ignoredCount, none, none⟩ := by
  have hactive : ¬ p ≠ (s.onTmu (Tmu.onLine p fun l => { l with lastTaken := some s.now })).tmu.active := by
    cases p <;> exact not_not_intro h
  have hfollows : ¬ (s.onTmu (Tmu.onLine p fun l => { l with lastTaken := some s.now })).tmu.follows = true := by
    simpa [Tmu.follows] using hf
  rw [takeEdge, if_neg hactive, if_neg hfollows]
  exact logEdge_taken ..

theorem takeEdge_capture {p : Podium} {s : State} (h : p = s.tmu.active) (hf : s.tmu.follows = true) :
    takeEdge p s = capture p s.now (s.onTmu (Tmu.onLine p fun l => { l with lastTaken := some s.now })) := by
  have hactive : ¬ p ≠ (s.onTmu (Tmu.onLine p fun l => { l with lastTaken := some s.now })).tmu.active := by
    cases p <;> exact not_not_intro h
  have hfollows : (s.onTmu (Tmu.onLine p fun l => { l with lastTaken := some s.now })).tmu.follows = true := by
    simpa [Tmu.follows] using hf
  rw [takeEdge, if_neg hactive, if_pos hfollows]
  rfl

end Sys2Proof.Machine

/-! ## The nearest beat, extra captures and matched captures (R50, R51) -/

namespace Sys2Proof.Machine

@[simp] theorem Tmu.nearest_onLine (p : Podium) (f : CaptureLine → CaptureLine) (t : Tmu) (c : Nat) :
    (t.onLine p f).nearest c = t.nearest c := by
  simp [Tmu.nearest]

/-- With no mark on the last emitted beat the pending beat is the nearest (R50). -/
theorem Tmu.nearest_of_unmarked {t : Tmu} {c n : Nat} {m : Mark} (hn : t.nextBeat = some n)
    (hm : t.pendingMark = some m) (hlast : ∀ b, t.emitted.getLast? = some b → b.mark = none) :
    t.nearest c = some (true, n, m) := by
  cases h : t.emitted.getLast? with
  | none => simp [Tmu.nearest, hn, hm, h]
  | some b => simp [Tmu.nearest, hn, hm, h, hlast b h]

/-- Of two marked beats the emitted one is the nearest at equal distance (R50). -/
theorem Tmu.nearest_of_marked {t : Tmu} {c n : Nat} {m m' : Mark} {b : EmittedBeat} (hn : t.nextBeat = some n)
    (hm' : t.pendingMark = some m') (hb : t.emitted.getLast? = some b) (hm : b.mark = some m) :
    t.nearest c =
      if ((c : Int) - b.time).natAbs ≤ ((c : Int) - n).natAbs then some (false, b.time, m)
      else some (true, n, m') := by
  simp [Tmu.nearest, hn, hm', hb, hm]

/-- The nearest beat is the pending one or the last one emitted (R50). -/
theorem Tmu.nearest_cases {t : Tmu} {c g : Nat} {pending : Bool} {m : Mark}
    (h : t.nearest c = some (pending, g, m)) :
    pending = true ∧ t.nextBeat = some g ∧ t.pendingMark = some m ∨
      pending = false ∧ ∃ b, t.emitted.getLast? = some b ∧ b.time = g ∧ b.mark = some m := by
  have hbeat : (t.nextBeat.bind fun x => t.pendingMark.map fun m => (true, x, m)) = some (pending, g, m) ∨
      (t.emitted.getLast?.bind fun b => b.mark.map fun m => (false, b.time, m)) = some (pending, g, m) := by
    unfold Tmu.nearest at h
    dsimp only at h
    split at h
    · exact .inl h
    · next hlast _ => exact .inr (hlast.trans h)
    · next hlast hnext =>
      split at h
      · exact .inr (hlast.trans h)
      · exact .inl (hnext.trans h)
  simp only [Option.bind_eq_some_iff, Option.map_eq_some_iff, Prod.mk.injEq] at hbeat
  obtain ⟨x, hx, m', hm', rfl, rfl, rfl⟩ | ⟨b, hb, m', hm', rfl, rfl, rfl⟩ := hbeat
  · exact .inl ⟨rfl, hx, hm'⟩
  · exact .inr ⟨rfl, b, hb, rfl, hm'⟩

/-- An EXTRA capture: logged with its grid error and counted, BEAT_SLIP raised, and the estimator as it was (R50). -/
def ExtraCapture (s t : State) (e : LogEntry) (near : Nat) : Prop :=
  e.disposition = .extra ∧ e.gridError = some ((s.now : Int) - near) ∧
    t.tmu.extras = satInc s.tmu.extras ∧ t.lku.latched.getLsbD 2 = true ∧ t.tmu.p16 = s.tmu.p16 ∧
    t.tmu.nextBeat = s.tmu.nextBeat ∧ t.tmu.correction = s.tmu.correction ∧ t.tmu.tempo = s.tmu.tempo ∧
    t.tmu.prevMatched = s.tmu.prevMatched ∧ t.tmu.outliers = s.tmu.outliers ∧
    t.tmu.outlierIntervals = s.tmu.outlierIntervals ∧ t.tmu.misses = s.tmu.misses ∧
    t.tmu.reacquire = s.tmu.reacquire ∧ t.tmu.emitted = s.tmu.emitted

/-- A capture whose nearest beat is not open is EXTRA (R50). -/
theorem takeEdge_extra {s : State} {pending : Bool} {g : Nat} {m : Mark} (hf : s.tmu.follows = true)
    (hnear : s.tmu.nearest s.now = some (pending, g, m)) (hm : m ≠ .opened) :
    takeEdge s.tmu.active s =
      raiseEvent .beatSlip ((s.logged s.tmu.active ⟨s.now, .extra, none, some ((s.now : Int) - g)⟩).onTmu fun t =>
        { t with extras := satInc t.extras }) := by
  rw [takeEdge_capture rfl hf, capture]
  simp only [State.onTmu_tmu, Tmu.nearest_onLine, hnear, if_neg hm]
  rw [logEdge_taken]

theorem takeEdge_extraCapture {s : State} {pending : Bool} {g : Nat} {m : Mark} (hf : s.tmu.follows = true)
    (hnear : s.tmu.nearest s.now = some (pending, g, m)) (hm : m ≠ .opened) :
    ExtraCapture s (takeEdge s.tmu.active s) ⟨s.now, .extra, none, some ((s.now : Int) - g)⟩ g := by
  rw [takeEdge_extra hf hnear hm]
  refine ⟨rfl, rfl, ?_, (raiseEvent_latched .beatSlip _).1, ?_⟩ <;> simp [State.logged]

/-- With no marked beat at all a capture is logged EXTRA without a grid error (R50). -/
theorem takeEdge_noBeat {s : State} (hf : s.tmu.follows = true) (hnear : s.tmu.nearest s.now = none) :
    takeEdge s.tmu.active s = s.logged s.tmu.active ⟨s.now, .extra, none, none⟩ := by
  rw [takeEdge_capture rfl hf, capture]
  simp only [State.onTmu_tmu, Tmu.nearest_onLine, hnear]
  rw [logEdge_taken]

/-- The part with a capture matched: logged, its beat's mark matched, no misses in turn, and the capture the previous
matched stamp (R50, R51). -/
def State.matched (p : Podium) (pending : Bool) (e : LogEntry) (s : State) : State :=
  (s.logged p e).onTmu fun t =>
    { (if pending then { t with pendingMark := some .matched }
        else t.onLast fun b => { b with mark := some .matched }) with
      misses := 0, prevMatched := some s.now }

theorem Tmu.classify_onLine (p : Podium) (f : CaptureLine → CaptureLine) (t : Tmu) (c : Nat) :
    (t.onLine p f).classify c = t.classify c := by
  cases p <;> rfl

section Matched

variable {s : State} {pending : Bool} {g : Nat} {d : Disposition} {interval accepted : Option Nat}

/-- In FLYWHEEL a matched capture counts toward reacquire (R57). -/
theorem takeEdge_flywheel (ht : s.tmu.tempo = .flywheel)
    (hnear : s.tmu.nearest s.now = some (pending, g, .opened))
    (hc : s.tmu.classify s.now = (d, interval, accepted)) :
    takeEdge s.tmu.active s =
      reacquireStep (s.matched s.tmu.active pending ⟨s.now, d, interval, some ((s.now : Int) - g)⟩) := by
  rw [takeEdge_capture rfl (by simp [Tmu.follows, ht]), capture]
  simp only [State.onTmu_tmu, Tmu.nearest_onLine, hnear, if_true, takeMatched, Tmu.classify_onLine, hc,
    logEdge_taken]
  rw [if_pos (by cases pending <;> simp [State.logged, Tmu.onLast, ht])]
  rfl

/-- In TRACKING a matched capture steps the period and then the phase (R51 to R54). -/
theorem takeEdge_tracking (ht : s.tmu.tempo = .tracking)
    (hnear : s.tmu.nearest s.now = some (pending, g, .opened))
    (hc : s.tmu.classify s.now = (d, interval, accepted)) :
    takeEdge s.tmu.active s =
      phaseStep pending g s.now s.tmu.period (periodStep d interval accepted
        (s.matched s.tmu.active pending ⟨s.now, d, interval, some ((s.now : Int) - g)⟩)) := by
  rw [takeEdge_capture rfl (by simp [Tmu.follows, ht]), capture]
  simp only [State.onTmu_tmu, Tmu.nearest_onLine, hnear, if_true, takeMatched, Tmu.classify_onLine, hc,
    logEdge_taken]
  rw [if_neg (by cases pending <;> simp [State.logged, Tmu.onLast, ht])]
  simp only [Tmu.period, Tmu.onLine_keeps]
  rfl

end Matched

end Sys2Proof.Machine

/-! ## What the estimator's steps keep (R51 to R57) -/

namespace Sys2Proof.Machine

/-- A matched capture changes its line, its beat's mark, the misses in turn and the previous matched stamp. -/
@[simp] theorem State.matched_keeps (p : Podium) (pending : Bool) (e : LogEntry) (s : State) :
    (s.matched p pending e).now = s.now ∧ (s.matched p pending e).tmu.p16 = s.tmu.p16 ∧
      (s.matched p pending e).tmu.pmin = s.tmu.pmin ∧ (s.matched p pending e).tmu.pmax = s.tmu.pmax ∧
      (s.matched p pending e).tmu.tempo = s.tmu.tempo ∧ (s.matched p pending e).tmu.nextBeat = s.tmu.nextBeat ∧
      (s.matched p pending e).tmu.correction = s.tmu.correction ∧
      (s.matched p pending e).tmu.outliers = s.tmu.outliers ∧
      (s.matched p pending e).tmu.outlierIntervals = s.tmu.outlierIntervals ∧
      (s.matched p pending e).tmu.outlierTotal = s.tmu.outlierTotal ∧
      (s.matched p pending e).tmu.splits = s.tmu.splits ∧ (s.matched p pending e).tmu.reseeds = s.tmu.reseeds ∧
      (s.matched p pending e).tmu.settings = s.tmu.settings ∧
      (s.matched p pending e).tmu.reacquire = s.tmu.reacquire ∧ (s.matched p pending e).tmu.misses = 0 ∧
      (s.matched p pending e).tmu.prevMatched = some s.now := by
  cases p <;> cases pending <;>
    exact ⟨rfl, rfl, rfl, rfl, rfl, rfl, rfl, rfl, rfl, rfl, rfl, rfl, rfl, rfl, rfl, rfl⟩

@[simp] theorem State.matched_line (p q : Podium) (pending : Bool) (e : LogEntry) (s : State) :
    (s.matched p pending e).tmu.line q = (s.tmu.onLine p (CaptureLine.took s.now e)).line q := by
  cases pending <;> cases q <;> rfl

/-- The phase step moves the next grid beat or the pending correction, and nothing else (R54). -/
@[simp] theorem phaseStep_keeps (b : Bool) (g c o : Nat) (s : State) :
    (phaseStep b g c o s).tmu.p16 = s.tmu.p16 ∧ (phaseStep b g c o s).tmu.tempo = s.tmu.tempo ∧
      (phaseStep b g c o s).tmu.prevMatched = s.tmu.prevMatched ∧
      (phaseStep b g c o s).tmu.misses = s.tmu.misses ∧ (phaseStep b g c o s).tmu.outliers = s.tmu.outliers ∧
      (phaseStep b g c o s).tmu.outlierIntervals = s.tmu.outlierIntervals ∧
      (phaseStep b g c o s).tmu.outlierTotal = s.tmu.outlierTotal ∧
      (phaseStep b g c o s).tmu.splits = s.tmu.splits ∧ (phaseStep b g c o s).tmu.reseeds = s.tmu.reseeds ∧
      (phaseStep b g c o s).tmu.lineA = s.tmu.lineA ∧ (phaseStep b g c o s).tmu.lineB = s.tmu.lineB := by
  unfold phaseStep
  dsimp only
  split
  · simp
  · split <;> simp

/-- The filter step changes P16 alone (R52). -/
theorem filterStep_tmu (i : Nat) (s : State) :
    (filterStep i s).tmu =
      { s.tmu with
        p16 := clampNat (16 * s.tmu.pmin) (16 * s.tmu.pmax)
          (moveTime s.tmu.p16 ((16 * i - s.tmu.p16 : Int).tdiv (2 ^ s.tmu.settings.depth : Nat))) } := by
  simp [filterStep]

/-- The outlier record after one outlier more (R53). -/
def Tmu.withOutlier (i : Nat) (t : Tmu) : Tmu :=
  { t with
    outlierTotal := satInc t.outlierTotal
    outliers := min 255 (t.outliers + 1)
    outlierIntervals := (t.outlierIntervals ++ [i]).drop ((t.outlierIntervals.length + 1) - 8) }

/-- An outlier reseeds the period where the record has a mean to reseed to (R53). -/
theorem outlierStep_tmu (i : Nat) (s : State) :
    (outlierStep i s).tmu =
      match (s.tmu.withOutlier i).reseedMean with
      | none => s.tmu.withOutlier i
      | some m =>
        { s.tmu.withOutlier i with
          p16 := clampNat (16 * s.tmu.pmin) (16 * s.tmu.pmax) (16 * m)
          outliers := 0
          outlierIntervals := []
          reseeds := satInc s.tmu.reseeds } := by
  change (match (s.tmu.withOutlier i).reseedMean with
    | none => _
    | some m => _ : State).tmu = _
  cases (s.tmu.withOutlier i).reseedMean with
  | none => rfl
  | some m => simp [Tmu.withOutlier]

/-- The outlier step keeps the grid, the correction and the tempo state (R53). -/
@[simp] theorem outlierStep_keeps (i : Nat) (s : State) :
    (outlierStep i s).tmu.tempo = s.tmu.tempo ∧ (outlierStep i s).tmu.nextBeat = s.tmu.nextBeat ∧
      (outlierStep i s).tmu.correction = s.tmu.correction ∧ (outlierStep i s).tmu.emitted = s.tmu.emitted ∧
      (outlierStep i s).tmu.settings = s.tmu.settings ∧ (outlierStep i s).tmu.prevMatched = s.tmu.prevMatched ∧
      (outlierStep i s).tmu.misses = s.tmu.misses ∧ (outlierStep i s).tmu.splits = s.tmu.splits ∧
      (outlierStep i s).tmu.outlierTotal = satInc s.tmu.outlierTotal ∧
      (outlierStep i s).tmu.lineA = s.tmu.lineA ∧ (outlierStep i s).tmu.lineB = s.tmu.lineB := by
  rw [outlierStep_tmu]
  cases (s.tmu.withOutlier i).reseedMean <;>
    exact ⟨rfl, rfl, rfl, rfl, rfl, rfl, rfl, rfl, rfl, rfl, rfl⟩

/-- The period step keeps the grid, the correction and the tempo state (R51 to R53). -/
@[simp] theorem periodStep_keeps (d : Disposition) (i a : Option Nat) (s : State) :
    (periodStep d i a s).tmu.tempo = s.tmu.tempo ∧ (periodStep d i a s).tmu.nextBeat = s.tmu.nextBeat ∧
      (periodStep d i a s).tmu.correction = s.tmu.correction ∧
      (periodStep d i a s).tmu.emitted = s.tmu.emitted ∧
      (periodStep d i a s).tmu.settings = s.tmu.settings ∧
      (periodStep d i a s).tmu.prevMatched = s.tmu.prevMatched ∧
      (periodStep d i a s).tmu.misses = s.tmu.misses ∧
      (periodStep d i a s).tmu.lineA = s.tmu.lineA ∧ (periodStep d i a s).tmu.lineB = s.tmu.lineB := by
  unfold periodStep
  split
  · simp
  · rw [filterStep_tmu]
    exact ⟨rfl, rfl, rfl, rfl, rfl, rfl, rfl, rfl, rfl⟩
  · exact ⟨rfl, rfl, rfl, rfl, rfl, rfl, rfl, rfl, rfl⟩

/-- A first matched capture is counted (R57). -/
theorem reacquireStep_first {s : State} (h : s.tmu.reacquire = 0) :
    reacquireStep s = s.onTmu fun t => { t with reacquire := t.reacquire + 1 } := by
  have hfew : ¬ 2 ≤ s.tmu.reacquire + 1 := by omega
  exact if_neg hfew

/-- The second matched capture in turn ends FLYWHEEL (R57). -/
theorem reacquireStep_second {s : State} (h : 1 ≤ s.tmu.reacquire) :
    reacquireStep s = raiseTempo (setTempo .tracking
      ((s.onTmu fun t => { t with reacquire := t.reacquire + 1 }).onTmu fun t =>
        { t with reacquire := 0, misses := 0 })) := by
  have henough : 2 ≤ s.tmu.reacquire + 1 := by omega
  exact if_pos henough

theorem reacquireStep_tmu (s : State) :
    (reacquireStep s).tmu =
      if 1 ≤ s.tmu.reacquire then { s.tmu with tempo := .tracking, reacquire := 0, misses := 0 }
      else { s.tmu with reacquire := s.tmu.reacquire + 1 } := by
  by_cases h : 1 ≤ s.tmu.reacquire
  · rw [if_pos h, reacquireStep_second h]
    simp
  · rw [if_neg h, reacquireStep_first (by omega)]
    rfl

/-- Lines that are the same records read the same. -/
theorem Tmu.line_congr {t t' : Tmu} (ha : t.lineA = t'.lineA) (hb : t.lineB = t'.lineB) (q : Podium) :
    t.line q = t'.line q := by
  cases q
  · exact ha
  · exact hb

theorem phaseStep_line (b : Bool) (g c o : Nat) (s : State) (q : Podium) :
    (phaseStep b g c o s).tmu.line q = s.tmu.line q := Tmu.line_congr (by simp) (by simp) q

theorem periodStep_line (d : Disposition) (i a : Option Nat) (s : State) (q : Podium) :
    (periodStep d i a s).tmu.line q = s.tmu.line q := Tmu.line_congr (by simp) (by simp) q

theorem reacquireStep_line (s : State) (q : Podium) : (reacquireStep s).tmu.line q = s.tmu.line q := by
  rw [reacquireStep_tmu]
  split <;> exact Tmu.line_congr rfl rfl q

end Sys2Proof.Machine

/-! ## A beat edge (R36, R37, R50) -/

namespace Sys2Proof.Machine

/-- A classification is one of the three of R51. -/
theorem Tmu.classify_disposition (t : Tmu) (c : Nat) :
    (t.classify c).1 = .accepted ∨ (t.classify c).1 = .doubleSplit ∨ (t.classify c).1 = .outlier := by
  unfold Tmu.classify
  split
  · simp
  · dsimp only
    split_ifs <;> simp

theorem Tmu.follows_iff (t : Tmu) : t.follows = true ↔ t.tempo = .tracking ∨ t.tempo = .flywheel := by
  simp [Tmu.follows]

/-- The estimator's step leaves the capture lines as the match left them. -/
theorem takeEdge_matched_line {s : State} {pending : Bool} {g : Nat} {d : Disposition}
    {interval accepted : Option Nat} (hf : s.tmu.follows = true)
    (hnear : s.tmu.nearest s.now = some (pending, g, .opened))
    (hc : s.tmu.classify s.now = (d, interval, accepted)) (q : Podium) :
    (takeEdge s.tmu.active s).tmu.line q =
      (s.tmu.onLine s.tmu.active
        (CaptureLine.took s.now ⟨s.now, d, interval, some ((s.now : Int) - g)⟩)).line q := by
  rw [← State.matched_line _ _ pending]
  obtain ht | ht := (Tmu.follows_iff _).mp hf
  · rw [takeEdge_tracking ht hnear hc, phaseStep_line, periodStep_line]
  · rw [takeEdge_flywheel ht hnear hc, reacquireStep_line]

/-- A capture in TRACKING or FLYWHEEL is logged once with one of the four dispositions, and it is EXTRA where its
nearest beat is not open (R37, R50, R51). -/
theorem takeEdge_captured {s : State} (hf : s.tmu.follows = true) :
    ∃ e : LogEntry, e.stamp = s.now ∧
      (e.disposition = .accepted ∨ e.disposition = .doubleSplit ∨ e.disposition = .extra ∨
        e.disposition = .outlier) ∧
      (∀ q, (takeEdge s.tmu.active s).tmu.line q = (s.tmu.onLine s.tmu.active (CaptureLine.took s.now e)).line q) ∧
      ∀ pending g m, s.tmu.nearest s.now = some (pending, g, m) → m ≠ .opened →
        ExtraCapture s (takeEdge s.tmu.active s) e g := by
  cases hnear : s.tmu.nearest s.now with
  | none =>
    refine ⟨⟨s.now, .extra, none, none⟩, rfl, .inr (.inr (.inl rfl)), fun q => ?_, fun _ _ _ h => nomatch h⟩
    rw [takeEdge_noBeat hf hnear]
    rfl
  | some x =>
    obtain ⟨pending, g, m⟩ := x
    by_cases hm : m = .opened
    · subst hm
      have hd := s.tmu.classify_disposition s.now
      rcases hc : s.tmu.classify s.now with ⟨d, interval, accepted⟩
      refine ⟨_, rfl, ?_, takeEdge_matched_line hf hnear hc, ?_⟩
      · rw [hc] at hd
        exact hd.imp_right fun h => h.imp_right .inr
      · rintro _ _ _ ⟨⟩ hm
        exact absurd rfl hm
    · refine ⟨⟨s.now, .extra, none, some ((s.now : Int) - g)⟩, rfl, .inr (.inr (.inl rfl)), fun q => ?_, ?_⟩
      · rw [takeEdge_extra hf hnear hm]
        cases q <;> rfl
      · rintro _ _ _ ⟨⟩ -
        exact takeEdge_extraCapture hf hnear hm

/-- Settles O31, by the branches of R36 and R37 and then by the nearest beat of R50. -/
theorem beatEdgeIsABounceOrIsLogged : Obligations.BeatEdgeIsABounceOrIsLogged := by
  intro pod s hreset line bounce logged
  have htaken (hb : ¬ bounce) : exec (.beatEdge pod) s = .next (takeEdge pod s) :=
    exec_beatEdge_taken hreset (Bool.eq_false_iff.mpr fun h => hb ((s.tmu.bounces_iff pod s.now).mp h))
  refine ⟨fun hb => ?_, fun hb hpod => ?_, fun hb hpod ht => ?_, fun hb hpod ht => ?_⟩
  · change live (beatEdgeStep pod) s = _
    rw [live_next _ _ hreset, beatEdgeStep, if_pos ((s.tmu.bounces_iff pod s.now).mpr hb)]
  · rw [htaken hb, takeEdge_inactive hpod]
    rfl
  · have hf : s.tmu.follows = false := by
      rcases ht with ht | ht | ht <;> simp [Tmu.follows, ht]
    rw [htaken hb, takeEdge_ignored hpod hf]
    rfl
  · subst hpod
    obtain ⟨e, hstamp, hdisp, hline, hextra⟩ := takeEdge_captured ((Tmu.follows_iff s.tmu).mpr ht)
    have hown := (hline s.tmu.active).trans (Tmu.line_onLine ..)
    refine ⟨_, e, htaken hb, by rw [hown]; rfl, by rw [hown]; rfl, hstamp, hdisp, by rw [hown]; rfl,
      fun q hq => (hline q).trans (Tmu.line_onLine_other hq ..), by simp [sameOthers], ?_⟩
    intro extra n m' hn hm'
    refine ⟨fun hlast hopen => hextra _ _ _ (Tmu.nearest_of_unmarked hn hm' hlast) hopen, ?_⟩
    intro b m hb hm near hopen
    have hnear := Tmu.nearest_of_marked (c := s.now) hn hm' hb hm
    by_cases hclose : ((s.now : Int) - b.time).natAbs ≤ ((s.now : Int) - n).natAbs
    · have hpair : near = (b.time, m) := if_pos hclose
      rw [hpair] at hopen ⊢
      exact hextra _ _ _ (hnear.trans (if_pos hclose)) hopen
    · have hpair : near = (n, m') := if_neg hclose
      rw [hpair] at hopen ⊢
      exact hextra _ _ _ (hnear.trans (if_neg hclose)) hopen

end Sys2Proof.Machine

/-! ## A matched capture (R50 to R54, R57) -/

namespace Sys2Proof.Machine

theorem State.matched_emitted_pending (p : Podium) (e : LogEntry) (s : State) :
    (s.matched p true e).tmu.emitted = s.tmu.emitted := by
  cases p <;> rfl

theorem State.matched_pendingMark (p : Podium) (e : LogEntry) (s : State) :
    (s.matched p true e).tmu.pendingMark = some .matched := rfl

theorem State.matched_emitted_last {p : Podium} {e : LogEntry} {s : State} {b : EmittedBeat}
    (h : s.tmu.emitted.getLast? = some b) :
    (s.matched p false e).tmu.emitted.getLast? = some { b with mark := some .matched } := by
  have hlast : (s.matched p false e).tmu.emitted =
      s.tmu.emitted.dropLast ++ s.tmu.emitted.getLast?.toList.map fun b => { b with mark := some .matched } := by
    cases p <;> rfl
  rw [hlast, h]
  exact List.getLast?_concat

/-- The matched capture's beat carries the mark: the pending one, or the last emitted one (R51). -/
theorem State.matched_marks {p : Podium} {pending : Bool} {g : Nat} {e : LogEntry} {s : State}
    (hnear : s.tmu.nearest s.now = some (pending, g, .opened)) :
    (pending = true → (s.matched p pending e).tmu.pendingMark = some .matched ∧
      (s.matched p pending e).tmu.emitted = s.tmu.emitted) ∧
    (pending = false → ∃ b, (s.matched p pending e).tmu.emitted.getLast? = some b ∧ b.time = g ∧
      b.mark = some .matched) := by
  obtain ⟨rfl, -, -⟩ | ⟨rfl, b, hb, hg, -⟩ := Tmu.nearest_cases hnear
  · exact ⟨fun _ => ⟨State.matched_pendingMark .., State.matched_emitted_pending ..⟩, fun h => (nomatch h)⟩
  · exact ⟨fun h => (nomatch h), fun _ => ⟨_, State.matched_emitted_last hb, hg, rfl⟩⟩

/-- The line's newest log entry after a matched capture is that capture's (R37). -/
theorem matched_newest {p : Podium} {pending : Bool} {e : LogEntry} {s : State} {l : CaptureLine}
    (h : l = (s.matched p pending e).tmu.line p) : l.log.getLast? = some e := by
  rw [h, State.matched_line, Tmu.line_onLine]
  exact CaptureLine.took_newest ..

/-- A capture's interval is the time from the previous matched stamp (R51). -/
theorem Tmu.classify_interval (t : Tmu) (c : Nat) :
    (t.classify c).2.1 = t.prevMatched.map fun x => c - x := by
  unfold Tmu.classify
  split
  · next h => rw [h]; rfl
  · next prev h =>
    rw [h]
    dsimp only
    split_ifs <;> rfl

theorem takeEdge_sameOthers (p : Podium) (s : State) : sameOthers s (takeEdge p s) := by simp [sameOthers]

/-! ### The phase (R54) -/

/-- Matched to the last emitted beat, a capture moves the next one by the correction and the change of the period. -/
theorem phaseStep_last (g c o : Nat) (s : State) :
    phaseStep false g c o s =
      moveNext (limitInt (s.tmu.period / 8 : Nat) (((c : Int) - g).tdiv (2 ^ s.tmu.settings.gain : Nat)) +
        ((s.tmu.period : Int) - o)) s := rfl

/-- Matched to a pending beat far enough ahead that is not the start beat, a capture moves it. -/
theorem phaseStep_ahead {g c : Nat} {s : State} (o : Nat) (he : s.tmu.emitted ≠ []) (hg : c + 2000 < g) :
    phaseStep true g c o s =
      moveNext (limitInt (s.tmu.period / 8 : Nat) (((c : Int) - g).tdiv (2 ^ s.tmu.settings.gain : Nat))) s :=
  if_pos ⟨he, hg⟩

/-- Matched to any other pending beat, a capture joins the pending correction. -/
theorem phaseStep_close {g c : Nat} {s : State} (o : Nat) (h : s.tmu.emitted = [] ∨ g ≤ c + 2000) :
    phaseStep true g c o s = s.onTmu fun t =>
      { t with
        correction := limitInt (s.tmu.period / 8 : Nat)
          (t.correction + limitInt (s.tmu.period / 8 : Nat)
            (((c : Int) - g).tdiv (2 ^ s.tmu.settings.gain : Nat))) } := by
  have hstay : ¬ (s.tmu.emitted ≠ [] ∧ c + 2000 < g) := by
    rintro ⟨he, hg⟩
    obtain he' | hg' := h
    · exact he he'
    · omega
  exact if_neg hstay

/-- Limiting to an eighth of a period, with the period read as an integer. -/
theorem limitInt_eighth (p : Nat) (x : Int) :
    limitInt (p / 8 : Nat) x =
      if (p : Int) / 8 < x then (p : Int) / 8
      else if x < -((p : Int) / 8) then -((p : Int) / 8)
      else x := by
  simp [limitInt]

section Phase

variable {s : State} {pending : Bool} {g : Nat}

/-- A capture matched in TRACKING corrects the phase, by the beat it is matched to (R54). -/
theorem matched_corrects_phase (hreset : s.inReset = false) (ht : s.tmu.tempo = .tracking)
    (hb : s.tmu.bounces s.tmu.active s.now = false) (hnear : s.tmu.nearest s.now = some (pending, g, .opened)) :
    ∃ t, exec (.beatEdge s.tmu.active) s = .next t ∧ sameOthers s t ∧
      (s.tmu.prevMatched = none → t.tmu.p16 = s.tmu.p16) ∧
      let corr := limitInt (t.tmu.period / 8 : Nat) (((s.now : Int) - g).tdiv (2 ^ s.tmu.settings.gain : Nat))
      (pending = true → s.tmu.emitted ≠ [] → s.now + 2000 < g →
        t.tmu.nextBeat = some (nowOrLater s.now ((g : Int) + corr)) ∧ t.tmu.correction = s.tmu.correction) ∧
      (pending = true → (s.tmu.emitted = [] ∨ g ≤ s.now + 2000) →
        t.tmu.nextBeat = some g ∧
          t.tmu.correction = limitInt (t.tmu.period / 8 : Nat) (s.tmu.correction + corr)) ∧
      (pending = false →
        (∀ n : Nat, s.tmu.nextBeat = some n →
          t.tmu.nextBeat = some (nowOrLater s.now (n + (corr + ((t.tmu.period : Int) - s.tmu.period))))) ∧
        t.tmu.correction = s.tmu.correction) := by
  rcases hc : s.tmu.classify s.now with ⟨d, i, a⟩
  refine ⟨_, exec_beatEdge_taken hreset hb, takeEdge_sameOthers _ s, ?_⟩
  rw [takeEdge_tracking ht hnear hc]
  refine ⟨fun hprev => ?_, ?_⟩
  · have hfirst : (.accepted, none, none) = (d, i, a) := by rw [← hc, Tmu.classify, hprev]
    cases hfirst
    simp [periodStep]
  have hbeat := Tmu.nearest_cases hnear
  refine ⟨?_, ?_, ?_⟩
  · rintro rfl he hg
    obtain ⟨-, hnext, -⟩ | ⟨h, -⟩ := hbeat
    · rw [phaseStep_ahead _ (by simpa [State.matched_emitted_pending] using he) hg]
      simp [Tmu.period, hnext]
    · cases h
  · rintro rfl hclose
    obtain ⟨-, hnext, -⟩ | ⟨h, -⟩ := hbeat
    · rw [phaseStep_close _ (by simpa [State.matched_emitted_pending] using hclose)]
      simp [Tmu.period, hnext]
    · cases h
  · rintro rfl
    rw [phaseStep_last]
    simp +contextual [Tmu.period]

end Phase

/-! ### Reacquire (R57) -/

theorem raiseTempo_holds (c : Cond) (s : State) : (raiseTempo s).holds c = s.holds c := raiseNotice_holds ..

/-- FOLLOW_LOST holds in FLYWHEEL alone (R56, R57). -/
theorem setTempo_followLost (x : TempoState) (s : State) :
    (setTempo x s).holds .followLost = (x == .flywheel) := by
  rw [setTempo, setCondition_holds, if_pos rfl]

/-- A capture matched in FLYWHEEL counts toward reacquire, and the second ends FLYWHEEL (R57). -/
theorem matched_reacquires {s : State} {pending : Bool} {g : Nat} (hreset : s.inReset = false)
    (ht : s.tmu.tempo = .flywheel) (hb : s.tmu.bounces s.tmu.active s.now = false)
    (hnear : s.tmu.nearest s.now = some (pending, g, .opened)) :
    ∃ t e, exec (.beatEdge s.tmu.active) s = .next t ∧ (t.tmu.line s.tmu.active).log.getLast? = some e ∧
      e.stamp = s.now ∧ e.gridError = some ((s.now : Int) - g) ∧
      e.interval = s.tmu.prevMatched.map (fun x => s.now - x) ∧ t.tmu.prevMatched = some s.now ∧
      t.tmu.misses = 0 ∧ t.tmu.p16 = s.tmu.p16 ∧ t.tmu.nextBeat = s.tmu.nextBeat ∧
      t.tmu.correction = s.tmu.correction ∧ t.tmu.outliers = s.tmu.outliers ∧
      t.tmu.outlierIntervals = s.tmu.outlierIntervals ∧
      (pending = true → t.tmu.pendingMark = some .matched ∧ t.tmu.emitted = s.tmu.emitted) ∧
      (pending = false → ∃ b, t.tmu.emitted.getLast? = some b ∧ b.time = g ∧ b.mark = some .matched) ∧
      (s.tmu.reacquire = 0 → t.tmu.tempo = .flywheel ∧ t.tmu.reacquire = 1) ∧
      (1 ≤ s.tmu.reacquire → t.tmu.tempo = .tracking ∧ t.tmu.reacquire = 0 ∧ t.holds .followLost = false) ∧
      sameOthers s t := by
  have hinterval := s.tmu.classify_interval s.now
  rcases hc : s.tmu.classify s.now with ⟨d, i, a⟩
  rw [hc] at hinterval
  have hothers := takeEdge_sameOthers s.tmu.active s
  refine ⟨_, ⟨s.now, d, i, some ((s.now : Int) - g)⟩, exec_beatEdge_taken hreset hb, ?_, rfl, rfl, hinterval, ?_⟩
  all_goals rw [takeEdge_flywheel ht hnear hc] at *
  · exact matched_newest (reacquireStep_line _ _)
  obtain ⟨hmark, hlast⟩ := State.matched_marks (p := s.tmu.active)
    (e := ⟨s.now, d, i, some ((s.now : Int) - g)⟩) hnear
  have hu := State.matched_keeps s.tmu.active pending ⟨s.now, d, i, some ((s.now : Int) - g)⟩ s
  revert hothers hmark hlast hu
  generalize s.matched s.tmu.active pending ⟨s.now, d, i, some ((s.now : Int) - g)⟩ = u
  intro hothers hmark hlast hu
  obtain hr | hr := Nat.eq_zero_or_pos s.tmu.reacquire
  · rw [reacquireStep_first (by simp [hu, hr])] at hothers ⊢
    simpa [hu, hr, ht] using ⟨hmark, hlast, hothers⟩
  · have hcounted : u.tmu.reacquire = s.tmu.reacquire := by simp [hu]
    have hnot : s.tmu.reacquire ≠ 0 := by omega
    rw [reacquireStep_second (hcounted ▸ hr)] at hothers ⊢
    simpa [hu, hnot, raiseTempo_holds, setTempo_followLost] using ⟨hmark, hlast, hothers⟩

/-! ### The period (R51 to R53) -/

section Classify

variable {t : Tmu} {prev c : Nat}

theorem Tmu.classify_accepted (hp : t.prevMatched = some prev)
    (hnear : (((c - prev : Nat) : Int) - t.period).natAbs ≤ t.period * t.settings.window / 64) :
    t.classify c = (.accepted, some (c - prev), some (c - prev)) := by
  simp only [Tmu.classify, hp, if_pos hnear]

theorem Tmu.classify_doubleSplit (hp : t.prevMatched = some prev)
    (hnear : ¬ (((c - prev : Nat) : Int) - t.period).natAbs ≤ t.period * t.settings.window / 64)
    (hsplit : (((c - prev : Nat) : Int) - 2 * t.period).natAbs ≤ t.period * t.settings.window / 128) :
    t.classify c = (.doubleSplit, some (c - prev), some ((c - prev) / 2)) := by
  simp only [Tmu.classify, hp, if_neg hnear, if_pos hsplit]

theorem Tmu.classify_outlier (hp : t.prevMatched = some prev)
    (hnear : ¬ (((c - prev : Nat) : Int) - t.period).natAbs ≤ t.period * t.settings.window / 64)
    (hsplit : ¬ (((c - prev : Nat) : Int) - 2 * t.period).natAbs ≤ t.period * t.settings.window / 128) :
    t.classify c = (.outlier, some (c - prev), none) := by
  simp only [Tmu.classify, hp, if_neg hnear, if_neg hsplit]

end Classify

/-- An accepted interval clears the outlier record and steps the filter (R52). -/
theorem periodStep_accepted {d : Disposition} (hd : d ≠ .outlier) (i x : Nat) (s : State) :
    periodStep d (some i) (some x) s = filterStep x (s.onTmu fun t =>
      { t with
        outliers := 0
        outlierIntervals := []
        splits := if d = .doubleSplit then satInc t.splits else t.splits }) := by
  cases d
  case outlier => exact absurd rfl hd
  all_goals rfl

/-- An outlier joins the outlier record (R53). -/
theorem periodStep_outlier (i : Nat) (a : Option Nat) (s : State) :
    periodStep .outlier (some i) a s = outlierStep i s := rfl

/-- The last `n` of the last 8 are the last `n` (R53). -/
theorem drop_last_of_last_eight {α : Type} (l : List α) {n : Nat} (h : n ≤ 8) :
    (l.drop (l.length - 8)).drop ((l.drop (l.length - 8)).length - n) = l.drop (l.length - n) := by
  rw [List.drop_drop, List.length_drop]
  congr 1
  omega

/-- The reseed mean of a record with one outlier more: that of the last Rs intervals, when all lie in the window of it
(R53). -/
theorem Tmu.withOutlier_reseedMean (t : Tmu) (i : Nat) (h : t.settings.reseed ≤ 8) :
    (t.withOutlier i).reseedMean =
      let last := (t.outlierIntervals ++ [i]).drop (t.outlierIntervals.length + 1 - t.settings.reseed)
      let mean := last.sum / t.settings.reseed
      if t.settings.reseed ≤ t.outliers + 1 ∧
          ∀ x ∈ last, ((x : Int) - mean).natAbs ≤ mean * t.settings.window / 64 then some mean
      else none := by
  have hlast : (t.withOutlier i).outlierIntervals.drop
      ((t.withOutlier i).outlierIntervals.length - t.settings.reseed) =
        (t.outlierIntervals ++ [i]).drop (t.outlierIntervals.length + 1 - t.settings.reseed) := by
    have hlength : t.outlierIntervals.length + 1 = (t.outlierIntervals ++ [i]).length := by simp
    simp only [Tmu.withOutlier, hlength]
    exact drop_last_of_last_eight _ h
  have hcount : t.settings.reseed ≤ (t.withOutlier i).outliers ↔ t.settings.reseed ≤ t.outliers + 1 := by
    simp only [Tmu.withOutlier]
    omega
  have hsettings : (t.withOutlier i).settings = t.settings := rfl
  simp only [Tmu.reseedMean, hsettings, hlast, hcount, List.all_eq_true, decide_eq_true_eq]

/-- A capture matched in TRACKING: the log entry, and what the phase step keeps of the period step (R51 to R54). -/
theorem matched_steps_period {s : State} {pending : Bool} {g i : Nat} {d : Disposition} {a : Option Nat}
    (hreset : s.inReset = false) (ht : s.tmu.tempo = .tracking)
    (hb : s.tmu.bounces s.tmu.active s.now = false) (hnear : s.tmu.nearest s.now = some (pending, g, .opened))
    (hc : s.tmu.classify s.now = (d, some i, a)) :
    ∃ t, exec (.beatEdge s.tmu.active) s = .next t ∧
      (t.tmu.line s.tmu.active).log.getLast? = some ⟨s.now, d, some i, some ((s.now : Int) - g)⟩ ∧
      t.tmu.prevMatched = some s.now ∧ t.tmu.misses = 0 ∧ t.tmu.tempo = .tracking ∧ sameOthers s t ∧
      let u := (periodStep d (some i) a
        (s.matched s.tmu.active pending ⟨s.now, d, some i, some ((s.now : Int) - g)⟩)).tmu
      t.tmu.p16 = u.p16 ∧ t.tmu.outliers = u.outliers ∧ t.tmu.outlierIntervals = u.outlierIntervals ∧
        t.tmu.outlierTotal = u.outlierTotal ∧ t.tmu.splits = u.splits ∧ t.tmu.reseeds = u.reseeds := by
  have hothers := takeEdge_sameOthers s.tmu.active s
  refine ⟨_, exec_beatEdge_taken hreset hb, ?_⟩
  rw [takeEdge_tracking ht hnear hc] at hothers ⊢
  exact ⟨matched_newest ((phaseStep_line ..).trans (periodStep_line ..)), by simp [ht, hothers]⟩

/-- Settles O32: the phase, the reacquire and, by the classification of R51, the period. -/
theorem matchedCaptureStepsThePeriod : Obligations.MatchedCaptureStepsThePeriod := by
  refine ⟨?_, fun s pending g hreset ht hb hnear => matched_reacquires hreset ht hb hnear, ?_⟩
  · rintro s pending g c hreset ht hb rfl hnear
    obtain ⟨t, hexec, hothers, hsame, hahead, hclose, hlast⟩ := matched_corrects_phase hreset ht hb hnear
    refine ⟨t, hexec, hothers, hsame, ?_⟩
    intro p limited corr moved
    have hlimited (x : Int) : limitInt (t.tmu.period / 8 : Nat) x = limited x := limitInt_eighth _ x
    simp only [hlimited] at hahead hclose hlast
    refine ⟨hahead, hclose, fun hp => ⟨fun n hn => (hlast hp).1 n hn, (hlast hp).2⟩⟩
  · rintro s pending g c prev hreset ht hb rfl hnear hprev -
    intro i per w near split stepped
    by_cases hn : near
    · obtain ⟨t, hexec, hlog, hstamp, hmiss, htempo, hothers, hp16, hout, -, -, hsplits, -⟩ :=
        matched_steps_period hreset ht hb hnear (Tmu.classify_accepted hprev hn)
      rw [periodStep_accepted (by decide), filterStep_tmu] at hp16 hout hsplits
      refine ⟨t, _, hexec, hlog, rfl, rfl, rfl, hstamp, hmiss, htempo, fun _ => ⟨rfl, ?_, hout, ?_⟩,
        fun h => absurd hn h, fun h => absurd hn h, hothers⟩
      · simp only [State.onTmu_tmu, State.matched_keeps] at hp16
        exact hp16
      · simpa using hsplits
    by_cases hs : split
    · obtain ⟨t, hexec, hlog, hstamp, hmiss, htempo, hothers, hp16, hout, -, -, hsplits, -⟩ :=
        matched_steps_period hreset ht hb hnear (Tmu.classify_doubleSplit hprev hn hs)
      rw [periodStep_accepted (by decide), filterStep_tmu] at hp16 hout hsplits
      refine ⟨t, _, hexec, hlog, rfl, rfl, rfl, hstamp, hmiss, htempo, fun h => absurd h hn,
        fun _ _ => ⟨rfl, ?_, hout, ?_⟩, fun _ h => absurd hs h, hothers⟩
      · simp only [State.onTmu_tmu, State.matched_keeps] at hp16
        exact hp16
      · simpa using hsplits
    · obtain ⟨t, hexec, hlog, hstamp, hmiss, htempo, hothers, hp16, hout, hints, htotal, hsplits, hreseeds⟩ :=
        matched_steps_period hreset ht hb hnear (Tmu.classify_outlier hprev hn hs)
      refine ⟨t, _, hexec, hlog, rfl, rfl, rfl, hstamp, hmiss, htempo, fun h => absurd h hn,
        fun _ h => absurd h hs, fun _ _ => ⟨rfl, ?_, ?_, fun hrs => ?_⟩, hothers⟩
      · simpa [periodStep_outlier] using htotal
      · simpa [periodStep_outlier] using hsplits
      intro rs last mean clamped within_
      have hmean := Tmu.withOutlier_reseedMean
        (s.matched s.tmu.active pending ⟨s.now, .outlier, some i, some ((s.now : Int) - g)⟩).tmu i
          (by simpa using hrs)
      rw [periodStep_outlier, outlierStep_tmu] at hp16 hout hints hreseeds
      simp only [State.matched_keeps] at hmean
      refine ⟨fun hcount hwithin => ?_, fun hlt hstay => ?_⟩
      · rw [if_pos ⟨hcount, hwithin⟩] at hmean
        rw [hmean] at hp16 hout hints hreseeds
        refine ⟨?_, hout, hints, ?_⟩
        · simp only [State.matched_keeps, clampNat_sixteenths] at hp16
          exact hp16
        · simpa using hreseeds
      · have hnone : ¬ (rs ≤ s.tmu.outliers + 1 ∧ within_) := by
          rintro ⟨hcount, hwithin⟩
          obtain hfew | hout := hstay
          · omega
          · exact hout hwithin
        rw [if_neg hnone] at hmean
        rw [hmean] at hp16 hout hints hreseeds
        refine ⟨?_, ?_, ?_⟩
        · simpa [Tmu.withOutlier] using hp16
        · rw [hout]
          simp [Tmu.withOutlier]
          omega
        · simpa [Tmu.withOutlier] using hreseeds

end Sys2Proof.Machine

/-! ## Miss checks (R48, R56) -/

namespace Sys2Proof.Machine

/-- A missed beat is counted and BEAT_SLIP raised (R56). -/
def State.slipped (s : State) : State :=
  raiseEvent .beatSlip (s.onTmu fun t => { t with missed := satInc t.missed })

/-- In FLYWHEEL a missed beat undoes the reacquire count (R56). -/
theorem beatMissed_flywheel {s : State} (h : s.tmu.tempo = .flywheel) :
    beatMissed s = s.slipped.onTmu fun t => { t with reacquire := 0 } := if_pos h

/-- Below the cut level a missed beat is one miss more in turn (R56). -/
theorem beatMissed_counted {s : State} (h : s.tmu.tempo ≠ .flywheel)
    (hcut : ¬ s.tmu.settings.cut ≤ min 16 (s.tmu.misses + 1)) :
    beatMissed s = s.slipped.onTmu fun t => { t with misses := min 16 (t.misses + 1) } :=
  (if_neg h).trans (if_neg hcut)

/-- At the cut level a missed beat enters FLYWHEEL (R56). -/
theorem beatMissed_cut {s : State} (h : s.tmu.tempo ≠ .flywheel)
    (hcut : s.tmu.settings.cut ≤ min 16 (s.tmu.misses + 1)) :
    beatMissed s = raiseTempo (setTempo .flywheel
      ((s.slipped.onTmu fun t => { t with misses := min 16 (t.misses + 1) }).onTmu fun t =>
        { t with outliers := 0, outlierIntervals := [], reacquire := 0 })) :=
  (if_neg h).trans (if_pos hcut)

theorem State.slipped_tmu (s : State) : s.slipped.tmu = { s.tmu with missed := satInc s.tmu.missed } := rfl

/-- A missed beat raises BEAT_SLIP on every link (R56, R179). -/
theorem beatMissed_slips (s : State) :
    (beatMissed s).lku.latched.getLsbD 2 = true ∧
      ∀ l, ((beatMissed s).lku.link l).captured.getLsbD 2 = true := by
  have hslip : s.slipped.lku.latched.getLsbD 2 = true ∧ ∀ l, (s.slipped.lku.link l).captured.getLsbD 2 = true :=
    raiseEvent_latched .beatSlip _
  by_cases hfly : s.tmu.tempo = .flywheel
  · rw [beatMissed_flywheel hfly]
    exact hslip
  by_cases hcut : s.tmu.settings.cut ≤ min 16 (s.tmu.misses + 1)
  · rw [beatMissed_cut hfly hcut, raiseTempo, setTempo]
    have hset (l : Link) (u : State) := setCondition_keeps .followLost (TempoState.flywheel == .flywheel) u l 2
    have hraise (l : Link) (n : NoticeBody) (u : State) := raiseNotice_keeps n u l
    exact ⟨(hraise .stage _ _).1 2 ((hset .stage _).1 hslip.1),
      fun l => (hraise l _ _).2.1 2 ((hset l _).2 (hslip.2 l))⟩
  · rw [beatMissed_counted hfly hcut]
    exact hslip

/-- A beat missed: counted, with BEAT_SLIP, and toward FLYWHEEL or against the reacquire count (R56). -/
def BeatMissed (s t : State) : Prop :=
  t.lku.latched.getLsbD 2 = true ∧ (∀ l, (t.lku.link l).captured.getLsbD 2 = true) ∧
    t.tmu.missed = satInc s.tmu.missed ∧ t.tmu.p16 = s.tmu.p16 ∧ t.tmu.correction = s.tmu.correction ∧
    t.tmu.nextBeat = s.tmu.nextBeat ∧ sameOthers s t ∧
    (s.tmu.tempo = .flywheel → t.tmu.tempo = .flywheel ∧ t.tmu.reacquire = 0 ∧ t.tmu.misses = s.tmu.misses) ∧
    (s.tmu.tempo = .tracking → s.tmu.misses < 16 → t.tmu.misses = s.tmu.misses + 1 ∧
      (s.tmu.misses + 1 < s.tmu.settings.cut → t.tmu.tempo = .tracking) ∧
      (s.tmu.settings.cut ≤ s.tmu.misses + 1 → t.tmu.tempo = .flywheel ∧ t.holds .followLost = true ∧
        t.tmu.outliers = 0 ∧ t.tmu.outlierIntervals = [] ∧ t.tmu.reacquire = 0))

/-- By the three branches of R56. -/
theorem beatMissed_spec (s : State) :
    BeatMissed s (beatMissed s) ∧ (beatMissed s).tmu.emitted = s.tmu.emitted ∧
      (beatMissed s).tmu.prior = s.tmu.prior := by
  obtain ⟨hlatched, hcaptured⟩ := beatMissed_slips s
  have hsame : sameOthers s (beatMissed s) := by simp [sameOthers]
  rw [BeatMissed, and_assoc, and_assoc]
  refine ⟨hlatched, hcaptured, ?_⟩
  by_cases hfly : s.tmu.tempo = .flywheel
  · rw [beatMissed_flywheel hfly] at hsame ⊢
    simp [hsame, State.slipped_tmu, hfly]
  by_cases hcut : s.tmu.settings.cut ≤ min 16 (s.tmu.misses + 1)
  · rw [beatMissed_cut hfly hcut] at hsame ⊢
    have hreached (h : s.tmu.misses < 16) : s.tmu.settings.cut ≤ s.tmu.misses + 1 := by omega
    simpa [hsame, State.slipped_tmu, hfly, raiseTempo_holds, setTempo_followLost] using
      fun (_ : s.tmu.tempo = .tracking) hfew => ⟨hfew, hreached hfew⟩
  · rw [beatMissed_counted hfly hcut] at hsame ⊢
    have hbelow (h : s.tmu.misses < 16) : s.tmu.misses + 1 < s.tmu.settings.cut := by omega
    simpa [hsame, State.slipped_tmu, hfly] using
      fun (ht : s.tmu.tempo = .tracking) hfew => ⟨hfew, fun _ => ht, hbelow hfew⟩

/-- A check that is due is taken (R2). -/
theorem EmittedBeat.checkDue_iff {s : State} (hnow : s.now < timeMax) (b : EmittedBeat) :
    b.checkDue s = true ↔ ∃ c, b.check = some c ∧ c ≤ s.now := by
  have hlate : ¬ s.now = timeMax := by omega
  unfold EmittedBeat.checkDue reachedOpt
  cases b.check <;> simp [reached, hlate]

/-- No check of a beat is due where each is still to come. -/
theorem EmittedBeat.checkDue_eq_false {s : State} (hnow : s.now < timeMax) {b : EmittedBeat}
    (h : ∀ x, b.check = some x → s.now < x) : b.checkDue s = false := by
  rw [Bool.eq_false_iff, ne_eq, EmittedBeat.checkDue_iff hnow]
  rintro ⟨c, hc, hle⟩
  exact absurd (h c hc) (by omega)

/-- The due check of an earlier grid's last beat is the first (R48; log entry 70). -/
theorem takeMiss_prior {s : State} {b : EmittedBeat} (hp : s.tmu.prior = some b) (hdue : b.checkDue s = true) :
    takeMiss s = missIfOpen b (s.onTmu fun t => { t with prior := some b.checked }) := by
  simp only [takeMiss, hp, Option.filter_some, hdue, if_true]

/-- The first due check of this grid is taken where none of the earlier grid is due (R48). -/
theorem takeMiss_emitted {s : State} {b : EmittedBeat} {before after : List EmittedBeat}
    (he : s.tmu.emitted = before ++ b :: after) (hdue : b.checkDue s = true)
    (hbefore : ∀ a ∈ before, a.checkDue s = false) (hprior : ∀ a, s.tmu.prior = some a → a.checkDue s = false) :
    takeMiss s = missIfOpen b (s.onTmu fun t => { t with emitted := before ++ b.checked :: after }) := by
  have hnone : s.tmu.prior.filter (EmittedBeat.checkDue s) = none := by
    simpa [Option.filter_eq_none_iff] using hprior
  have hidx : s.tmu.emitted.findIdx? (EmittedBeat.checkDue s) = some before.length := by
    simp [he, List.findIdx?_append, List.findIdx?_cons, hdue, List.findIdx?_eq_none_iff.mpr hbefore]
  have hget : s.tmu.emitted.getD before.length default = b := by simp [he]
  have hmodify : s.tmu.emitted.modify before.length EmittedBeat.checked = before ++ b.checked :: after := by
    simp [he, List.modify_eq_take_cons_drop]
  simp only [takeMiss, hnone, hidx, hget]
  simp only [State.onTmu, hmodify]

/-- Settles O35: the first due check, of this grid or the earlier one, and its beat open or not. -/
theorem missedBeatCountsTowardFlywheel : Obligations.MissedBeatCountsTowardFlywheel := by
  intro s b c hreset hcheck hle hnow missed gone lost
  have hdue : b.checkDue s = true := (EmittedBeat.checkDue_iff hnow b).mpr ⟨c, hcheck, hle⟩
  have hexec : exec .missCheck s = .next (takeMiss s) := live_next _ _ hreset
  have hgone (h : b.mark ≠ some .opened) : b.checked = gone := by simp [EmittedBeat.checked, h, gone]
  have hlost (h : b.mark = some .opened) : b.checked = lost := by simp [EmittedBeat.checked, h, lost]
  refine ⟨fun before after he hbefore hprior => ?_, fun hp => ?_⟩
  · have htake := takeMiss_emitted he hdue (fun a ha => EmittedBeat.checkDue_eq_false hnow (hbefore a ha))
      (fun a ha => EmittedBeat.checkDue_eq_false hnow (hprior a ha))
    refine ⟨fun hclosed => ?_, fun hopen => ?_⟩
    · rw [hexec, htake, missIfOpen, if_neg hclosed, hgone hclosed]
    · rw [missIfOpen, if_pos hopen, hlost hopen] at htake
      obtain ⟨hm, hem, hpr⟩ := beatMissed_spec (s.onTmu fun t => { t with emitted := before ++ lost :: after })
      exact ⟨_, hexec.trans (congrArg _ htake), hm, hem, hpr⟩
  · have htake := takeMiss_prior hp hdue
    refine ⟨fun hclosed => ?_, fun hopen => ?_⟩
    · rw [hexec, htake, missIfOpen, if_neg hclosed, hgone hclosed]
    · rw [missIfOpen, if_pos hopen, hlost hopen] at htake
      obtain ⟨hm, hem, hpr⟩ := beatMissed_spec (s.onTmu fun t => { t with prior := some lost })
      exact ⟨_, hexec.trans (congrArg _ htake), hm, hpr, hem⟩

end Sys2Proof.Machine

/-! # Cues and GO: the obligations of 04_cues_and_go.md -/

/-! ## Queue order (R79) -/

namespace Sys2Proof.Machine

theorem Entry.before_iff (a b : Entry) :
    a.before b = true ↔ a.landTime < b.landTime ∨ (a.landTime = b.landTime ∧ a.seq.toNat ≤ b.seq.toNat) := by
  simp [Entry.before]

/-- Putting an entry at its place is Mathlib's ordered insertion. -/
theorem insertEntry_eq_orderedInsert (e : Entry) (q : List Entry) :
    insertEntry e q = q.orderedInsert (fun a b => a.before b = true) e := by
  induction q with
  | nil => rfl
  | cons d ds ih => simp [insertEntry, ih]

theorem insertEntry_perm (e : Entry) (q : List Entry) : (insertEntry e q).Perm (e :: q) :=
  insertEntry_eq_orderedInsert e q ▸ List.perm_orderedInsert _ e q

theorem inQueueOrder_iff (q : List Entry) : InQueueOrder q ↔ q.Pairwise fun a b => a.before b = true := by
  simp only [InQueueOrder, Entry.before_iff]

theorem insertEntry_inQueueOrder (e : Entry) {q : List Entry} (h : InQueueOrder q) :
    InQueueOrder (insertEntry e q) := by
  have htotal : Std.Total fun a b : Entry => a.before b = true :=
    ⟨fun a b => by simp only [Entry.before_iff]; omega⟩
  have htrans : IsTrans Entry fun a b => a.before b = true :=
    ⟨fun a b c => by simp only [Entry.before_iff]; omega⟩
  rw [inQueueOrder_iff] at h ⊢
  rw [insertEntry_eq_orderedInsert]
  exact h.orderedInsert e q

/-- Sorting puts the entries of a queue, and no other, in queue order. -/
theorem sortQueue_spec (q : List Entry) : (sortQueue q).Perm q ∧ InQueueOrder (sortQueue q) := by
  suffices h : ∀ acc, InQueueOrder acc →
      (q.foldl (fun acc e => insertEntry e acc) acc).Perm (q ++ acc) ∧
        InQueueOrder (q.foldl (fun acc e => insertEntry e acc) acc) by
    simpa [sortQueue] using h [] .nil
  induction q with
  | nil => exact fun acc h => ⟨.rfl, h⟩
  | cons e q ih =>
    intro acc h
    obtain ⟨hperm, horder⟩ := ih (insertEntry e acc) (insertEntry_inQueueOrder e h)
    refine ⟨hperm.trans ?_, horder⟩
    exact ((insertEntry_perm e acc).append_left q).trans List.perm_middle

end Sys2Proof.Machine

/-! ## What the PDU makes of a patch change (R81 to R83) -/

namespace Sys2Proof.Machine

/-- The entry a change makes where it joins a queue (R83). -/
def Change.entry (c : Change) (s : State) : Entry :=
  { station := c.station, layer := c.layer, patch := c.patch, origin := c.origin, form := (landOf s c.land).1
    landPlace := (landOf s c.land).2.1, landTime := (landOf s c.land).2.2, seq := s.pdu.nextSeq }

/-- A new entry of origin CUE joins its queue and is counted (R79, R83). -/
def joinQueue (e : Entry) (s : State) : State :=
  ((s.onQueue e.station (insertEntry e)).onPdu fun d => { d with nextSeq := d.nextSeq + 1 }).onClosures e.station
    fun k => { k with created := k.created + 1 }

/-- No change is made for a station that is ABSENT or CUT (R81). -/
abbrev State.gone (s : State) (n : Nat) : Prop := (s.station n).state = .absent ∨ (s.station n).state = .cut

/-- The four ways of a change: its station is gone, an entry of its layer and land is QUEUED, the queue is full, or
there is room (R81 to R83). -/
theorem createEntry_eq (c : Change) (s : State) :
    createEntry c s =
      if s.gone c.station then refuseChange c s
      else
        match (s.queue c.station).find? fun a =>
          a.supersededBy c.layer (c.entry s).form (c.entry s).landPlace (c.entry s).landTime with
        | some old => supersede old { c.entry s with seq := old.seq } s
        | none =>
          if 8 ≤ (s.queue c.station).length then refuseChange c s
          else resolutionCreated c.origin (joinQueue (c.entry s) s) := rfl

/-- A QUEUED entry of a new entry's layer and land, where that is no POSITION land (R82). -/
def Entry.sharesLand (new a : Entry) : Prop :=
  a.state = .queued ∧ a.layer = new.layer ∧ a.form = new.form ∧ (new.form = .time → a.landTime = new.landTime)

theorem Entry.supersededBy_iff {new : Entry} (h : new.form ≠ .position) (a : Entry) :
    a.supersededBy new.layer new.form new.landPlace new.landTime = true ↔ new.sharesLand a := by
  unfold Entry.supersededBy Entry.sharesLand
  cases hform : new.form
  case position => exact absurd hform h
  all_goals simp [and_assoc]

/-- A change is refused: counted, PATCH_FAIL latched, and the queue as it was (R81, R100). -/
def ChangeRefused (n : Nat) (s t : State) : Prop :=
  t.queue n = s.queue n ∧
    nth1 t.pdu.closures n =
      { nth1 s.pdu.closures n with refused := (nth1 s.pdu.closures n).refused + 1 } ∧
    t.pdu.nextSeq = s.pdu.nextSeq ∧ t.pdu.outstanding = s.pdu.outstanding ∧ t.lku.latched.getLsbD 5 = true

/-- A new entry takes the place of an old one, and its sequence, among the others of the queue (R82, R100). -/
def ChangeSupersedes (new old : Entry) (others : List Entry) (s t : State) : Prop :=
  (t.queue new.station).Perm ({ new with seq := old.seq } :: others) ∧ InQueueOrder (t.queue new.station) ∧
    nth1 t.pdu.closures new.station =
      { nth1 s.pdu.closures new.station with
        superseded := (nth1 s.pdu.closures new.station).superseded + 1
        created := (nth1 s.pdu.closures new.station).created + 1 } ∧
    t.pdu.nextSeq = s.pdu.nextSeq ∧
    t.pdu.outstanding = if old.origin = .resolution then s.pdu.outstanding - 1 else s.pdu.outstanding

/-- A new entry joins its queue (R79, R83, R100). -/
def ChangeCreated (new : Entry) (s t : State) : Prop :=
  (t.queue new.station).Perm (new :: s.queue new.station) ∧
    (InQueueOrder (s.queue new.station) → InQueueOrder (t.queue new.station)) ∧
    nth1 t.pdu.closures new.station =
      { nth1 s.pdu.closures new.station with created := (nth1 s.pdu.closures new.station).created + 1 } ∧
    t.pdu.nextSeq = s.pdu.nextSeq + 1 ∧ t.pdu.outstanding = s.pdu.outstanding

theorem ChangeRefused.congr {n : Nat} {s t u : State} (h : ChangeRefused n s u) (hp : t.pdu = u.pdu)
    (hl : ∀ b, u.lku.latched.getLsbD b = true → t.lku.latched.getLsbD b = true) : ChangeRefused n s t := by
  obtain ⟨hqueue, hclosures, hseq, hcount, hlatched⟩ := h
  unfold ChangeRefused State.queue
  rw [hp]
  exact ⟨hqueue, hclosures, hseq, hcount, hl 5 hlatched⟩

theorem ChangeSupersedes.congr {new old : Entry} {others : List Entry} {s t u : State}
    (h : ChangeSupersedes new old others s u) (hp : t.pdu = u.pdu) : ChangeSupersedes new old others s t := by
  unfold ChangeSupersedes State.queue at *
  rwa [hp]

theorem ChangeCreated.congr {new : Entry} {s t u : State} (h : ChangeCreated new s u) (hp : t.pdu = u.pdu) :
    ChangeCreated new s t := by
  unfold ChangeCreated State.queue at *
  rwa [hp]

/-- The PDU's part of a refusal. -/
theorem refuseChange_pdu (c : Change) (s : State) :
    (refuseChange c s).pdu =
      { s.pdu with closures := upd1 s.pdu.closures c.station fun k => { k with refused := k.refused + 1 } } := rfl

/-- A notice clears no latched bit. -/
theorem raiseNotice_latched (b : NoticeBody) {s : State} {n : Nat} (h : s.lku.latched.getLsbD n = true) :
    (raiseNotice b s).lku.latched.getLsbD n = true := (raiseNotice_keeps b s .stage).1 n h

/-- A refusal latches PATCH_FAIL (R81). -/
theorem refuseChange_latched (c : Change) (s : State) : (refuseChange c s).lku.latched.getLsbD 5 = true :=
  raiseNotice_latched _ (raiseEvent_latched .patchFail _).1

/-- The PDU's part of a closed or superseded entry. -/
theorem resolutionClosed_pdu (e : Entry) (s : State) :
    (resolutionClosed e s).pdu =
      { s.pdu with
        outstanding := if e.origin = .resolution then s.pdu.outstanding - 1 else s.pdu.outstanding } := by
  unfold resolutionClosed
  split
  · simp only [decOutstanding]
    split <;> simp
  · rfl

/-- The PDU's part where an entry of origin CUE supersedes another. -/
theorem supersede_pdu {old new : Entry} (h : new.origin = .cue) (s : State) :
    (supersede old new s).pdu =
      { s.pdu with
        queues := upd1 s.pdu.queues old.station fun q => sortQueue (new :: q.erase old)
        closures := upd1 s.pdu.closures old.station fun k =>
          { k with superseded := k.superseded + 1, created := k.created + 1 }
        outstanding := if old.origin = .resolution then s.pdu.outstanding - 1 else s.pdu.outstanding } := by
  simp [supersede, resolutionClosed_pdu, resolutionCreated, h, State.onQueue, State.onClosures]

/-- An entry of origin CUE that supersedes another closes it (R6, R82). -/
theorem supersede_closed {old new : Entry} (h : new.origin = .cue) (s : State) :
    ResolutionsClosed (resolutionsIn [old]) s (supersede old new s) :=
  raisePatch_resolutionClosed old .superseded s _ (by simp [resolutionCreated, h, State.onQueue]) (by simp)

/-- The PDU's part where an entry joins its queue. -/
theorem joinQueue_pdu (e : Entry) (s : State) :
    (joinQueue e s).pdu =
      { s.pdu with
        queues := upd1 s.pdu.queues e.station (insertEntry e)
        closures := upd1 s.pdu.closures e.station fun k => { k with created := k.created + 1 }
        nextSeq := s.pdu.nextSeq + 1 } := rfl

theorem refuseChange_refused {c : Change} {s : State} (h1 : 1 ≤ c.station) (hc : c.station ≤ s.pdu.closures.length) :
    ChangeRefused c.station s (refuseChange c s) := by
  refine ⟨rfl, ?_, rfl, rfl, refuseChange_latched c s⟩
  rw [refuseChange_pdu]
  exact nth1_upd1_self _ _ _ h1 hc

theorem joinQueue_created {e : Entry} {s : State} (h1 : 1 ≤ e.station) (hq : e.station ≤ s.pdu.queues.length)
    (hc : e.station ≤ s.pdu.closures.length) : ChangeCreated e s (joinQueue e s) := by
  have hqueue : (joinQueue e s).queue e.station = insertEntry e (s.queue e.station) := nth1_upd1_self _ _ _ h1 hq
  refine ⟨?_, ?_, nth1_upd1_self _ _ _ h1 hc, rfl, rfl⟩
  · rw [hqueue]
    exact insertEntry_perm e _
  · rw [hqueue]
    exact insertEntry_inQueueOrder e

theorem supersede_supersedes {new old : Entry} {s : State} {before after : List Entry} (ho : new.origin = .cue)
    (hold : old.station = new.station) (h1 : 1 ≤ new.station) (hq : new.station ≤ s.pdu.queues.length)
    (hc : new.station ≤ s.pdu.closures.length) (hsplit : s.queue new.station = before ++ old :: after) :
    ChangeSupersedes new old (before ++ after) s (supersede old { new with seq := old.seq } s) := by
  have hpdu := supersede_pdu (old := old) (new := { new with seq := old.seq }) ho s
  rw [hold] at hpdu
  have hqueue : (supersede old { new with seq := old.seq } s).queue new.station =
      sortQueue ({ new with seq := old.seq } :: (s.queue new.station).erase old) := by
    rw [State.queue, hpdu]
    exact nth1_upd1_self _ _ _ h1 hq
  have hothers : ((s.queue new.station).erase old).Perm (before ++ after) := by
    rw [hsplit]
    exact (List.perm_cons_erase (by simp)).symm.trans List.perm_middle |>.cons_inv
  obtain ⟨hperm, horder⟩ := sortQueue_spec ({ new with seq := old.seq } :: (s.queue new.station).erase old)
  rw [ChangeSupersedes, hqueue, hpdu]
  exact ⟨hperm.trans (hothers.cons _), horder, nth1_upd1_self _ _ _ h1 hc, rfl, rfl⟩

section Handed

variable {c : Change} {s : State}

theorem createEntry_of_gone (h : s.gone c.station) : createEntry c s = refuseChange c s := if_pos h

/-- An entry of the change's layer and land stands in the queue, and none before it. -/
theorem createEntry_of_shared (h : ¬ s.gone c.station) (hform : (c.entry s).form ≠ .position)
    {before after : List Entry} {old : Entry} (hsplit : s.queue c.station = before ++ old :: after)
    (hold : (c.entry s).sharesLand old) (hbefore : ∀ a ∈ before, ¬ (c.entry s).sharesLand a) :
    createEntry c s = supersede old { c.entry s with seq := old.seq } s := by
  have hfind : (s.queue c.station).find? (fun a =>
      a.supersededBy c.layer (c.entry s).form (c.entry s).landPlace (c.entry s).landTime) = some old := by
    refine List.find?_eq_some_iff_append.mpr ⟨(Entry.supersededBy_iff hform old).mpr hold, before, after, hsplit, ?_⟩
    intro a ha
    rw [Bool.not_eq_true', ← Bool.not_eq_true]
    exact fun hs => hbefore a ha ((Entry.supersededBy_iff hform a).mp hs)
  rw [createEntry_eq, if_neg h, hfind]

/-- No entry of the change's layer and land stands in the queue. -/
theorem createEntry_of_unshared (h : ¬ s.gone c.station) (hform : (c.entry s).form ≠ .position)
    (hnone : ∀ a ∈ s.queue c.station, ¬ (c.entry s).sharesLand a) :
    createEntry c s =
      if 8 ≤ (s.queue c.station).length then refuseChange c s
      else resolutionCreated c.origin (joinQueue (c.entry s) s) := by
  have hfind : (s.queue c.station).find? (fun a =>
      a.supersededBy c.layer (c.entry s).form (c.entry s).landPlace (c.entry s).landTime) = none :=
    List.find?_eq_none.mpr fun a ha hs => hnone a ha ((Entry.supersededBy_iff hform a).mp hs)
  rw [createEntry_eq, if_neg h, hfind]

/-- A change touches the queue of its station alone, where each entry of that queue is its station's. -/
theorem createEntry_otherQueues (ho : c.origin = .cue) (hown : ∀ a ∈ s.queue c.station, a.station = c.station)
    {n : Nat} (hn : n ≠ c.station) : (createEntry c s).queue n = s.queue n := by
  rw [createEntry_eq]
  split
  · rfl
  split
  · next old hold =>
    have hst : old.station = c.station := hown old (List.mem_of_find?_eq_some hold)
    rw [State.queue, supersede_pdu ho, hst]
    exact nth1_upd1_other _ _ _ _ hn
  split
  · rfl
  · rw [ho]
    exact nth1_upd1_other _ _ _ _ hn

/-- Outside PREPARING a change leaves the SCU as it is (R7). -/
theorem createEntry_scu (ho : c.origin = .cue) (h : s.scu.showState ≠ .preparing) :
    (createEntry c s).scu = s.scu := by
  rw [createEntry_eq]
  split
  · simp
  split
  · next old _ =>
    obtain ⟨-, hscu⟩ := supersede_closed (old := old) (new := { c.entry s with seq := old.seq }) ho s
    rw [hscu, if_neg fun ⟨_, _, hpreparing⟩ => h hpreparing]
  split
  · simp
  · simp [joinQueue]

end Handed

end Sys2Proof.Machine

/-! ## A cue's run and GO (R65, R66, R68 to R71) -/

namespace Sys2Proof.Machine

theorem optCueId_beOpt (id : Option (BitVec 16)) :
    optCueId (beOpt (fun x : BitVec 16 => be 2 x.toNat) id) = some (id.map BitVec.toNat) := by
  have hid := optField_beOpt (w := 16) 2 rfl id []
  rw [List.append_nil] at hid
  simp [optCueId, hid, whole]

/-- Outside PREPARING an action leaves the show state as it is. -/
theorem runAction_showState {s : State} (h : s.scu.showState ≠ .preparing) (c : Cue) (b : RunBy) (a : Action) :
    (runAction c b s a).scu.showState = s.scu.showState := by
  cases a with
  | patch st layer patch land => exact congrArg Scu.showState (createEntry_scu rfl h)
  | lane lanes mute pattern => simp [runAction]
  | feed feeds source overlay => simp [runAction]
  | vampExit =>
    simp only [runAction, vampExitStep]
    split
    · split <;> rfl
    · rfl
    · rfl
  | tempo fixed => simp [runAction]

theorem foldl_runAction_showState (c : Cue) (b : RunBy) (as : List Action) {s : State}
    (h : s.scu.showState ≠ .preparing) : (as.foldl (runAction c b) s).scu.showState = s.scu.showState := by
  induction as generalizing s with
  | nil => rfl
  | cons a as ih =>
    have ha := runAction_showState h c b a
    rw [List.foldl_cons, ih (ha ▸ h), ha]

/-- A running cue's actions alone touch the SCU and the PDU. -/
theorem runCue_blocks (b : RunBy) (e : CueEntry) (s : State) :
    (runCue b s e).scu = (e.cue.actions.foldl (runAction e.cue b) s).scu ∧
      (runCue b s e).pdu = (e.cue.actions.foldl (runAction e.cue b) s).pdu := by
  simp [runCue]

/-- A running cue takes its fired mark and loses its due-at-start mark (R68). -/
theorem runCue_store (b : RunBy) (e : CueEntry) (s : State) :
    (runCue b s e).store =
      { s.store with
        cues := s.store.cues.map fun x =>
          if x.cue.id = e.cue.id then { x with fired := some (s.runPass b), dueAtStart := false } else x } := by
  simp [runCue, State.onMark, State.onCues]

/-- A cue run by GO counts itself and its actions, and ends the standby cue if it is that cue (R67, R68). -/
theorem runCue_go_cue (e : CueEntry) (s : State) :
    (runCue .go s e).cue =
      { s.cue with
        standby := if s.cue.standby = some e.cue.id then none else s.cue.standby
        goRun := s.cue.goRun + 1
        actions := s.cue.actions + BitVec.ofNat 32 e.cue.actions.length } := by
  by_cases h : s.cue.standby = some e.cue.id <;> simp [runCue, h, setStandby, RunBy.isGo]

/-- What a running cue does after its actions clears no latched bit. -/
theorem runCue_latched (b : RunBy) (e : CueEntry) (s : State) (n : Nat)
    (h : (e.cue.actions.foldl (runAction e.cue b) s).lku.latched.getLsbD n = true) :
    (runCue b s e).lku.latched.getLsbD n = true := by
  refine raiseNotice_latched _ ?_
  rw [State.onCue_lku]
  split <;> exact h

/-- The skipped cues are counted (R66). -/
theorem tellSkipped_cue (n : Nat) (ids : List Nat) (s : State) :
    (tellSkipped n ids s).cue = { s.cue with skipped := s.cue.skipped + BitVec.ofNat 32 ids.length } := by
  cases ids with
  | nil => simp [tellSkipped]
  | cons i ids => simp [tellSkipped, List.getLast?_cons]

theorem tellSkipped_latched (m : Nat) (ids : List Nat) (s : State) (n : Nat)
    (h : s.lku.latched.getLsbD n = true) : (tellSkipped m ids s).lku.latched.getLsbD n = true := by
  unfold tellSkipped
  split
  · exact raiseNotice_latched _ h
  · exact h

/-- The part as the actions of a cue run by GO find it: the GO pointer is beyond the cue (R66). -/
def State.beyond (e : CueEntry) (s : State) : State :=
  s.onCue fun q => { q with goPointer := s.store.firstGo e.cue.song fun c => decide (e.cue.id < c.id) }

theorem goRun_eq (e : CueEntry) (s : State) :
    goRun e s = tellSkipped e.cue.id (s.skippedBy e.cue) (runCue .go (s.beyond e) e) := rfl

theorem goRun_cue (e : CueEntry) (s : State) :
    (goRun e s).cue =
      { s.cue with
        goPointer := s.store.firstGo e.cue.song fun c => decide (e.cue.id < c.id)
        standby := if s.cue.standby = some e.cue.id then none else s.cue.standby
        goRun := s.cue.goRun + 1
        skipped := s.cue.skipped + BitVec.ofNat 32 (s.skippedBy e.cue).length
        actions := s.cue.actions + BitVec.ofNat 32 e.cue.actions.length } := by
  rw [goRun_eq, tellSkipped_cue, runCue_go_cue]
  rfl

theorem goRun_store (e : CueEntry) (s : State) :
    (goRun e s).store =
      { s.store with
        cues := s.store.cues.map fun x =>
          if x.cue.id = e.cue.id then { x with fired := some s.scu.position.pass, dueAtStart := false } else x } := by
  simp only [goRun_eq, tellSkipped_frame, runCue_store]
  rfl

theorem goRun_showState {s : State} (h : s.scu.showState ≠ .preparing) (e : CueEntry) :
    (goRun e s).scu.showState = s.scu.showState := by
  simp only [goRun_eq, tellSkipped_frame, runCue_blocks]
  exact foldl_runAction_showState e.cue .go e.cue.actions (s := s.beyond e) h

/-- A GO of a cue of one PATCH action leaves of the PDU what the change does, and its latched bits stand. -/
theorem goRun_onePatch {e : CueEntry} {st layer patch : Nat} {land : LandWritten}
    (h : e.cue.actions = [.patch st layer patch land]) (s : State) :
    let u := createEntry ⟨st, layer, patch, .cue, (s.beyond e).patchLand e.cue .go land⟩ (s.beyond e)
    (goRun e s).pdu = u.pdu ∧
      ∀ n, u.lku.latched.getLsbD n = true → (goRun e s).lku.latched.getLsbD n = true := by
  have hfold : e.cue.actions.foldl (runAction e.cue .go) (s.beyond e) =
      createEntry ⟨st, layer, patch, .cue, (s.beyond e).patchLand e.cue .go land⟩ (s.beyond e) := by
    rw [h]
    rfl
  intro u
  refine ⟨?_, fun n hn => tellSkipped_latched _ _ _ n (runCue_latched _ _ _ n (hfold ▸ hn))⟩
  simp only [goRun_eq, tellSkipped_frame, runCue_blocks, hfold]
  rfl

/-- The land of a change handed by GO (R69, R83). -/
theorem landOf_patchLand_go {s : State} {x : Segment} {d : Place} (hx : s.segment = some x)
    (hd : s.scu.position.place = some d) (c : Cue) (land : LandWritten) :
    landOf s (s.patchLand c .go land) = ((landAtGo s x d land).1, none, (landAtGo s x d land).2) := by
  cases land with
  | now => rfl
  | atCue => rfl
  | nextBeat =>
    cases hn : s.tmu.nextBeat <;> simp [State.patchLand, landOf, landAtGo, hn]
  | nextBar =>
    cases hn : s.tmu.nextBeat with
    | none => simp [State.patchLand, landOf, landAtGo, hn]
    | some n =>
      simp only [State.patchLand, landOf, landAtGo, hn, hx, hd, Option.map_some, Option.getD_some, Tmu.period]
      split <;> rfl

theorem landAtGo_form_ne_position (s : State) (x : Segment) (d : Place) (land : LandWritten) :
    (landAtGo s x d land).1 ≠ .position := by
  cases land <;> cases hn : s.tmu.nextBeat <;> simp [landAtGo, hn]

/-- What a GO resolves to (R65). -/
def GoTargets (s : State) (id : Option (BitVec 16)) (e : CueEntry) : Prop :=
  ∃ g, s.cue.goPointer = some g ∧
    (id = none ∧ s.store.cue g = some e ∨
      ∃ x, id = some x ∧ s.store.cue x.toNat = some e ∧
        (x.toNat = g ∨ g < x.toNat ∧ (∃ bar, e.cue.kind = .go bar) ∧
          s.scu.position.place.map Place.song = some e.cue.song))

theorem Cue.isGo_iff (c : Cue) : c.isGo = true ↔ ∃ bar, c.kind = .go bar := by
  unfold Cue.isGo
  cases c.kind <;> simp

/-- A GO with an id above the pointer: a GO cue of the position's song (R65). -/
theorem State.goTarget_above {s : State} {i g : Nat} (hg : s.cue.goPointer = some g) (h : g < i) (e : CueEntry) :
    s.goTarget (some i) = some e ↔
      s.store.cue i = some e ∧ (∃ bar, e.cue.kind = .go bar) ∧
        s.scu.position.place.map Place.song = some e.cue.song := by
  have hne : i ≠ g := by omega
  have hnlt : ¬ i < g := by omega
  simp only [State.goTarget, hg, if_neg hne, if_neg hnlt, Option.bind_eq_some_iff, Option.ite_none_right_eq_some,
    Bool.and_eq_true, Cue.isGo_iff, beq_iff_eq, Option.some.injEq]
  constructor
  · rintro ⟨d, hd, hgo, rfl⟩
    exact ⟨hd, hgo⟩
  · rintro ⟨hd, hgo⟩
    exact ⟨e, hd, hgo, rfl⟩

theorem goTarget_eq_some_iff (s : State) (id : Option (BitVec 16)) (e : CueEntry) :
    s.goTarget (id.map BitVec.toNat) = some e ↔ GoTargets s id e := by
  unfold GoTargets
  cases hg : s.cue.goPointer with
  | none => cases id <;> simp [State.goTarget, hg]
  | some g =>
    cases id with
    | none => simp [State.goTarget, hg]
    | some x =>
      rw [Option.map_some]
      obtain hlt | heq | hgt := Nat.lt_trichotomy x.toNat g
      · have hne : x.toNat ≠ g := by omega
        have hngt : ¬ g < x.toNat := by omega
        simp [State.goTarget, hg, hlt, hne, hngt]
      · simp [State.goTarget, hg, heq]
      · have hne : x.toNat ≠ g := by omega
        simp [State.goTarget_above hg hgt, hgt, hne]

theorem Store.cue_mem {st : Store} {n : Nat} {e : CueEntry} (h : st.cue n = some e) : e ∈ st.cues :=
  List.mem_of_find?_eq_some h

/-- What a GO resolves to stands in the cue table. -/
theorem GoTargets.mem {s : State} {id : Option (BitVec 16)} {e : CueEntry} (h : GoTargets s id e) :
    e ∈ s.store.cues := by
  obtain ⟨g, -, ⟨-, hcue⟩ | ⟨x, -, hcue, -⟩⟩ := h
  · exact Store.cue_mem hcue
  · exact Store.cue_mem hcue

theorem goOwner_refusedState {s : State} (h : s.scu.showState = .dark ∨ s.scu.showState = .preparing ∨
    s.scu.showState = .hold) (id : Option Nat) : goOwner id s = (s, .refusedState, []) := by
  obtain h | h | h := h <;> simp [goOwner, h, plain]

/-- In ARMED, COUNT_IN and RUNNING a GO is judged by its id (R65). -/
theorem goOwner_judged {s : State} (h : s.scu.showState = .armed ∨ s.scu.showState = .countIn ∨
    s.scu.showState = .running) (id : Option Nat) :
    goOwner id s =
      if id.all (within 1 9999) then (s.goTarget id).elim (s, .notFound, []) fun e => (goRun e s, .ok, [])
      else (s, .range, []) := by
  obtain h | h | h := h <;> simp only [goOwner, h, plain] <;> cases s.goTarget id <;> rfl

/-- The answer to GO. -/
theorem exec_go {p : List Byte} {id : Option (BitVec 16)} {s u : State} {r : Result}
    (h : Completes .stage 1 p (beOpt (fun x : BitVec 16 => be 2 x.toNat) id) s)
    (ho : goOwner (id.map BitVec.toNat) (taken .stage s) = (u, r, [])) :
    exec (.go .stage p) s = .next (answer .stage 1 r [] u) :=
  live_request_of_owner (rights := stageOnly) h rfl (optCueId_beOpt id) ho

theorem idInRange_iff (id : Option (BitVec 16)) :
    (id.map BitVec.toNat).all (within 1 9999) = true ↔ ∀ x, id = some x → 1 ≤ x.toNat ∧ x.toNat ≤ 9999 := by
  cases id <;> simp [within_eq_true]

/-- GO runs the cue that it resolves to (R65). -/
theorem goOwner_runs {s : State} {id : Option (BitVec 16)} {e : CueEntry}
    (h : s.scu.showState = .armed ∨ s.scu.showState = .countIn ∨ s.scu.showState = .running)
    (hid : ∀ x, id = some x → 1 ≤ x.toNat ∧ x.toNat ≤ 9999) (ht : GoTargets s id e) :
    goOwner (id.map BitVec.toNat) s = (goRun e s, .ok, []) := by
  rw [goOwner_judged h, if_pos ((idInRange_iff id).mpr hid), (goTarget_eq_some_iff s id e).mpr ht,
    Option.elim_some]

theorem goOwner_notFound {s : State} {id : Option (BitVec 16)}
    (h : s.scu.showState = .armed ∨ s.scu.showState = .countIn ∨ s.scu.showState = .running)
    (hid : ∀ x, id = some x → 1 ≤ x.toNat ∧ x.toNat ≤ 9999) (ht : ∀ e ∈ s.store.cues, ¬ GoTargets s id e) :
    goOwner (id.map BitVec.toNat) s = (s, .notFound, []) := by
  have hnone : s.goTarget (id.map BitVec.toNat) = none := by
    refine Option.eq_none_iff_forall_ne_some.mpr fun e he => ?_
    have htarget := (goTarget_eq_some_iff s id e).mp he
    exact ht e htarget.mem htarget
  rw [goOwner_judged h, if_pos ((idInRange_iff id).mpr hid), hnone, Option.elim_none]

theorem goOwner_range {s : State} {id : Option (BitVec 16)}
    (h : s.scu.showState = .armed ∨ s.scu.showState = .countIn ∨ s.scu.showState = .running)
    (hid : ∃ x, id = some x ∧ (x.toNat = 0 ∨ 9999 < x.toNat)) :
    goOwner (id.map BitVec.toNat) s = (s, .range, []) := by
  obtain ⟨x, rfl, hx⟩ := hid
  rw [goOwner_judged h, if_neg]
  rw [idInRange_iff]
  intro hin
  obtain ⟨hlo, hhi⟩ := hin x rfl
  omega

/-- The cues that a GO passes over, with the GO pointer at one (R66). -/
theorem State.skippedBy_length (s : State) (c : Cue) :
    (s.skippedBy c).length =
      (s.store.cues.filter fun x => s.cue.goPointer.any fun g =>
        x.cue.isGo && x.cue.song == c.song && decide (g ≤ x.cue.id) && decide (x.cue.id < c.id)).length := by
  unfold State.skippedBy
  cases s.cue.goPointer <;> simp

/-- What the PDU makes of a change with a new entry, by its station, its queue and the entries of its layer and land
(R69, R79, R81 to R83). -/
def ChangeHanded (new : Entry) (s t : State) : Prop :=
  (s.gone new.station → ChangeRefused new.station s t) ∧
    (¬ s.gone new.station → ∀ before old after, s.queue new.station = before ++ old :: after → new.sharesLand old →
      (∀ a ∈ before ++ after, ¬ new.sharesLand a) → ChangeSupersedes new old (before ++ after) s t) ∧
    (¬ s.gone new.station → (∀ a ∈ s.queue new.station, ¬ new.sharesLand a) →
      (8 ≤ (s.queue new.station).length → ChangeRefused new.station s t) ∧
      ((s.queue new.station).length < 8 → ChangeCreated new s t)) ∧
    ∀ n, n ≠ new.station → t.queue n = s.queue n

/-- By the four ways of `createEntry_eq`. -/
theorem createEntry_handed {s t : State} {c : Change} {new : Entry} (hnew : c.entry s = new) (ho : c.origin = .cue)
    (h1 : 1 ≤ c.station) (h14 : c.station ≤ 14) (hq : s.pdu.queues.length = 14) (hc : s.pdu.closures.length = 14)
    (hown : ∀ a ∈ s.queue c.station, a.station = c.station) (hform : new.form ≠ .position)
    (hpdu : t.pdu = (createEntry c s).pdu)
    (hlatched : ∀ n, (createEntry c s).lku.latched.getLsbD n = true → t.lku.latched.getLsbD n = true) :
    ChangeHanded new s t := by
  subst hnew
  have hqueue : c.station ≤ s.pdu.queues.length := by omega
  have hclosures : c.station ≤ s.pdu.closures.length := by omega
  have hrefused : ChangeRefused c.station s (refuseChange c s) := refuseChange_refused h1 hclosures
  rw [ChangeHanded, show (c.entry s).station = c.station from rfl]
  refine ⟨fun hgone => ?_, fun hgone before old after hsplit hold hothers => ?_, fun hgone hnone => ⟨fun hfull => ?_,
    fun hroom => ?_⟩, fun n hn => ?_⟩
  · rw [createEntry_of_gone hgone] at hpdu hlatched
    exact hrefused.congr hpdu hlatched
  · have hbefore : ∀ a ∈ before, ¬ (c.entry s).sharesLand a := fun a ha => hothers a (by simp [ha])
    rw [createEntry_of_shared hgone hform hsplit hold hbefore] at hpdu
    have hold_station : old.station = c.station := hown old (by simp [hsplit])
    exact (supersede_supersedes (new := c.entry s) ho hold_station h1 hqueue hclosures hsplit).congr hpdu
  · rw [createEntry_of_unshared hgone hform hnone, if_pos hfull] at hpdu hlatched
    exact hrefused.congr hpdu hlatched
  · rw [createEntry_of_unshared hgone hform hnone, if_neg (by omega), ho] at hpdu
    exact (joinQueue_created (e := c.entry s) h1 hqueue hclosures).congr hpdu
  · rw [State.queue, hpdu]
    exact createEntry_otherQueues ho hown hn

/-- The entry that a GO's PATCH action makes where it joins a queue (R69, R79, R83). -/
def patchEntry (s : State) (x : Segment) (d : Place) (st layer patch : Nat) (land : LandWritten) : Entry :=
  { station := st, layer := layer, patch := patch, origin := .cue, form := (landAtGo s x d land).1, landPlace := none
    landTime := (landAtGo s x d land).2, seq := s.pdu.nextSeq }

/-- A GO of a cue of one PATCH action hands the PDU its change (R69). -/
theorem goRun_handsPatch {s t : State} {e : CueEntry} {st layer patch : Nat} {land : LandWritten} {x : Segment}
    {d : Place} (hactions : e.cue.actions = [.patch st layer patch land]) (h1 : 1 ≤ st) (h14 : st ≤ 14)
    (hq : s.pdu.queues.length = 14) (hc : s.pdu.closures.length = 14) (hown : ∀ a ∈ s.queue st, a.station = st)
    (hx : s.segment = some x) (hd : s.scu.position.place = some d) (hpdu : t.pdu = (goRun e s).pdu)
    (hlatched : t.lku.latched = (goRun e s).lku.latched) :
    ChangeHanded (patchEntry s x d st layer patch land) s t := by
  obtain ⟨hrun, hkept⟩ := goRun_onePatch hactions s
  have hnew : Change.entry ⟨st, layer, patch, .cue, (s.beyond e).patchLand e.cue .go land⟩ (s.beyond e) =
      patchEntry s x d st layer patch land := by
    rw [Change.entry, landOf_patchLand_go (s := s.beyond e) hx hd]
    rfl
  exact createEntry_handed (s := s.beyond e) hnew rfl h1 h14 hq hc hown (landAtGo_form_ne_position s x d land)
    (hpdu.trans hrun) (fun n hn => hlatched ▸ hkept n hn)

/-- Settles O21: the refusals by the show state and the id, the run by what GO leaves of each block, and its PATCH
action by the four ways of a change. -/
theorem goRunsTheCueItResolvesTo : Obligations.GoRunsTheCueItResolvesTo := by
  intro p id s h
  have hshow : (taken .stage s).scu.showState = s.scu.showState := by simp
  refine ⟨fun hstate => exec_go h (goOwner_refusedState (hshow ▸ hstate) _),
    fun hstate hid => exec_go h (goOwner_range (hshow ▸ hstate) hid), fun hstate hid => ?_⟩
  intro target isSkipped
  refine ⟨fun hnone => exec_go h (goOwner_notFound (hshow ▸ hstate) hid hnone), fun e _ ht => ?_⟩
  have hne : (taken .stage s).scu.showState ≠ .preparing := by
    rw [hshow]
    rintro hp
    simp [hp] at hstate
  have hanswers : ((goRun e (taken .stage s)).lku.link .stage).responses = (s.lku.link .stage).responses := by
    have hkept : (goRun e (taken .stage s)).answers = (taken .stage s).answers := by simp
    exact (congrFun hkept .stage).trans (taken_responses .stage .stage s)
  refine ⟨_, exec_go h (goOwner_runs (hshow ▸ hstate) hid ht),
    respond_answered _ _ _ _ _ _ _ hanswers (by simp), ?_⟩
  simp only [answer, respond_frame, goRun_cue, goRun_store, goRun_showState hne, goRun_frame, State.skippedBy_length,
    taken_frame, true_and]
  refine ⟨rfl, ?_⟩
  intro st layer patch land x d hactions h1 h14 hq hc hown hx hd
  obtain ⟨hgone, hshared, hunshared, hothers⟩ := goRun_handsPatch (s := taken .stage s)
    (t := answer .stage 1 .ok [] (goRun e (taken .stage s))) hactions h1 h14 hq hc hown hx hd rfl rfl
  exact ⟨hgone, hshared, hunshared, fun n _ _ hn => hothers n hn⟩

end Sys2Proof.Machine

/-! # Patch dispatch: the obligations of 05_patch_dispatch.md -/

/-! ## Lands recomputed at a delivered beat (R84, R85) -/

namespace Sys2Proof.Machine

theorem nth1_map {α β : Type} [Inhabited α] [Inhabited β] (f : α → β) {l : List α} {i : Nat} (h1 : 1 ≤ i)
    (hl : i ≤ l.length) :
    nth1 (l.map f) i = f (nth1 l i) := by
  obtain ⟨j, rfl⟩ := Nat.exists_eq_add_of_le' h1
  have hj : j < l.length := hl
  simp [nth1, hj]

/-- The next grid beat time that the PDU reads at a delivered beat (log entry 5). -/
def State.beatRead (s : State) : Nat := s.tmu.nextBeat.getD (Config.freeBeatTime s.freeIdx)

/-- A delivered beat recomputes the queues, and touches nothing else of the PDU (R84, R85). -/
theorem recomputeLands_pdu (g : GridBeat) (s : State) :
    (recomputeLands g s).pdu =
      { s.pdu with
        queues := s.pdu.queues.map fun q =>
          sortQueue (q.map (Entry.recompute s.store g s.beatRead s.tmu.period)) } := by
  unfold recomputeLands
  dsimp only
  split <;> rfl

theorem recomputeLands_lku (g : GridBeat) (s : State) : (recomputeLands g s).lku = s.lku := by
  unfold recomputeLands
  dsimp only
  split <;> rfl

theorem recomputeLands_queue {g : GridBeat} {s : State} {st : Nat} (h1 : 1 ≤ st) (hst : st ≤ s.pdu.queues.length) :
    (recomputeLands g s).queue st =
      sortQueue ((s.queue st).map (Entry.recompute s.store g s.beatRead s.tmu.period)) := by
  rw [State.queue, recomputeLands_pdu]
  exact nth1_map _ h1 hst

theorem length_sortQueue (q : List Entry) : (sortQueue q).length = q.length := (sortQueue_spec q).1.length_eq

theorem mem_sortQueue {e : Entry} {q : List Entry} : e ∈ sortQueue q ↔ e ∈ q := (sortQueue_spec q).1.mem_iff

/-- An entry whose land is fixed at a delivered beat (R84, R85). -/
def Entry.fixedAt (g : GridBeat) (e : Entry) : Entry := { e with landTime := g.time, form := .time, landPlace := none }

section Recompute

variable {st : Store} {g : GridBeat} {n p : Nat} {e : Entry} {d : Place} {x : Segment}

/-- An entry that is sent, or of form NOW or TIME, keeps its land. -/
theorem Entry.recompute_kept (h : e.state ≠ .queued ∨ e.form = .now ∨ e.form = .time) :
    e.recompute st g n p = e := by
  unfold Entry.recompute
  obtain hsent | hform | hform := h
  · simp [hsent]
  · simp [hform]
  · simp [hform]

/-- A QUEUED entry of form POSITION lands by the beats to go in its own song, segment and pass, and now where there
are none (R84). -/
theorem Entry.recompute_position {l : LandPlace} (hhold : g.showState ≠ .hold) (hd : g.position.place = some d)
    (hx : st.segmentOf d = some x) (hq : e.state = .queued) (hform : e.form = .position)
    (hl : e.landPlace = some l) :
    e.recompute st g n p =
      let k := x.beatIndex l.bar l.beat - x.beatIndex d.bar.toNat d.beat
      if 1 ≤ k ∧ g.showState = .running ∧ d.song = l.song ∧ d.segment = l.segment ∧ g.position.pass = l.pass then
        { e with landTime := n + (k.toNat - 1) * p }
      else e.fixedAt g := by
  have hskip : ¬ (e.state ≠ .queued ∨ g.showState = .hold) := by simp [hq, hhold]
  simp only [Entry.recompute, if_neg hskip, hform, hl, hd, hx]
  by_cases hplace : g.showState = .running ∧ d.song = l.song ∧ d.segment = l.segment ∧ g.position.pass = l.pass
  · simp only [hplace, and_self, and_true]
    rfl
  · rw [if_neg hplace, if_neg fun h => hplace h.2]
    rfl

/-- A QUEUED entry of form NEXT_DOWNBEAT lands at the downbeat, and waits for it at another beat of COUNT_IN and
RUNNING (R85). -/
theorem Entry.recompute_nextDownbeat (hshow : g.showState = .countIn ∨ g.showState = .running ∨ g.showState = .dark)
    (hd : g.position.place = some d) (hx : st.segmentOf d = some x) (hq : e.state = .queued)
    (hform : e.form = .nextDownbeat) :
    e.recompute st g n p =
      if g.downbeat = false ∧ g.showState ≠ .dark then { e with landTime := n + (x.meter - d.beat) * p }
      else e.fixedAt g := by
  have hskip : ¬ (e.state ≠ .queued ∨ g.showState = .hold) := by
    rintro (h | h)
    · exact h hq
    · simp [h] at hshow
  simp only [Entry.recompute, if_neg hskip, hform, hd, Option.bind_some, hx, Option.map_some, Option.getD_some]
  cases hdown : g.downbeat
  case true => rfl
  case false => obtain h | h | h := hshow <;> simp [h, Entry.fixedAt]

end Recompute

/-- The PDU takes the delivered beat at its head (R84, R85). -/
theorem exec_landRecompute {s : State} {g : GridBeat} {rest : List HandOver} (hreset : s.inReset = false)
    (hhands : s.pdu.hands = .beat g :: rest) :
    exec .landRecompute s = .next (recomputeLands g (s.onPdu fun p => { p with hands := rest })) := by
  change live (takePduHead HandOver.isBeat) s = _
  rw [live_next _ _ hreset, takePduHead, hhands]
  rfl

/-- Settles O48, by the form of the entry: where the delivered show state is not DARK the TMU holds a next grid beat
time, and where it is DARK no land is reckoned by one. -/
theorem beatRecomputesLands : Obligations.BeatRecomputesLands := by
  intro s g rest d x n st hreset hhands hd hx hshow h1 h14 hq
  have hbeat : g.showState ≠ .dark → s.beatRead = n := by
    intro hdark
    obtain ⟨-, hn⟩ | h := hshow
    · simp [State.beatRead, hn]
    · exact absurd h hdark
  have hstate : g.showState = .countIn ∨ g.showState = .running ∨ g.showState = .dark := by
    obtain ⟨h | h, -⟩ | h := hshow <;> simp [h]
  have hhold : g.showState ≠ .hold := by
    intro h
    simp [h] at hstate
  have hqueue : (recomputeLands g (s.onPdu fun p => { p with hands := rest })).queue st =
      sortQueue ((s.queue st).map (Entry.recompute s.store g s.beatRead s.tmu.period)) :=
    recomputeLands_queue h1 (hq ▸ h14)
  refine ⟨_, exec_landRecompute hreset hhands, by rw [recomputeLands_pdu]; rfl, ?_,
    by rw [recomputeLands_pdu]; rfl, by rw [recomputeLands_pdu]; rfl, ?_⟩
  · rw [hqueue, length_sortQueue, List.length_map]
  simp only [recomputeLands_frame, recomputeLands_lku, State.onPdu_scu, State.onPdu_tmu, State.onPdu_store,
    State.onPdu_cue, State.onPdu_pbc, State.onPdu_clu, State.onPdu_vu, State.onPdu_lku, hqueue, mem_sortQueue, true_and]
  intro e he
  have hmem {e' : Entry} (h : e.recompute s.store g s.beatRead s.tmu.period = e') :
      e' ∈ (s.queue st).map (Entry.recompute s.store g s.beatRead s.tmu.period) := List.mem_map.mpr ⟨e, he, h⟩
  refine ⟨fun hkept => hmem (Entry.recompute_kept hkept), fun l hqueued hform hl => ?_, fun hqueued hform => ?_⟩
  · have hland := Entry.recompute_position (n := s.beatRead) (p := s.tmu.period) hhold hd hx hqueued hform hl
    split
    · next hto =>
      rw [← hbeat (by simp [hto])]
      exact hmem (hland.trans (if_pos hto))
    · next hnot => exact hmem (hland.trans (if_neg hnot))
  · have hland := Entry.recompute_nextDownbeat (n := s.beatRead) (p := s.tmu.period) hstate hd hx hqueued hform
    split
    · next hwait =>
      rw [← hbeat hwait.2]
      exact hmem (hland.trans (if_pos hwait))
    · next hnow => exact hmem (hland.trans (if_neg hnow))

end Sys2Proof.Machine

/-! ## A reply to a probe (R105, R116, R120, R121) -/

namespace Sys2Proof.Machine

/-- What a station's record reads is its entry in the table of stations. -/
theorem State.station_congr {s t : State} (h : t.pbc.stations = s.pbc.stations) (n : Nat) :
    t.station n = s.station n := by
  rw [State.station, h, State.station]

/-- Two changes at one number of a table are one. -/
theorem upd1_upd1 {α : Type} (l : List α) (i : Nat) (f g : α → α) : upd1 (upd1 l i f) i g = upd1 l i (g ∘ f) := by
  cases i with
  | zero => rfl
  | succ i =>
    refine List.ext_getElem? fun j => ?_
    simp only [upd1, List.getElem?_modify]
    by_cases h : i = j <;> simp [h, Function.comp_def]

/-- Changes that agree on the entry at a number agree on the table. -/
theorem upd1_congr {α : Type} [Inhabited α] {l : List α} {i : Nat} {f g : α → α} (h : f (nth1 l i) = g (nth1 l i)) :
    upd1 l i f = upd1 l i g := by
  cases i with
  | zero => rfl
  | succ i =>
    refine List.ext_getElem? fun j => ?_
    simp only [upd1, List.getElem?_modify]
    by_cases hij : i = j
    · subst hij
      cases hl : l[i]? with
      | none => rfl
      | some a => simpa [nth1, List.getD_eq_getElem?_getD, hl] using h
    · simp [hij]

theorem upd1_eq_self {α : Type} [Inhabited α] {l : List α} {i : Nat} {f : α → α} (h : f (nth1 l i) = nth1 l i) :
    upd1 l i f = l := by
  have hid : upd1 l i f = upd1 l i id := upd1_congr h
  rw [hid]
  cases i with
  | zero => rfl
  | succ i => exact List.modify_id i l

/-- A station's record with the tally of a reply (R107). -/
def Station.tallied (tally : Nat) (r : Station) : Station :=
  { r with lossCounter := min 255 tally, starved := r.starved || (decide (8 ≤ tally) && r.state.joined) }

/-- A station's record after a success (R116). -/
def Station.succeeded (r : Station) : Station :=
  match r.state with
  | .joining => { r with streak := 0 }
  | .ready => { r with streak := 0 }
  | .suspect => { r with state := .ready, streak := 0 }
  | .absent => r
  | .cut => r

/-- A station's record with a good sample taken: the filter, and the counts of good probes (R121). -/
def Station.counted (depth : Nat) (o d : Int) (r : Station) : Station :=
  let f : Station := { r.filterSample depth o d with goodTotal := r.goodTotal + 1 }
  if f.state = .joining then { f with goodProbes := f.goodProbes + 1 } else f

/-- A JOINING station is READY with its fourth good probe (R121). -/
def Station.readied (r : Station) : Station :=
  if r.state = .joining ∧ 4 ≤ r.goodProbes then { r with state := .ready, streak := 0 } else r

/-- A station's record after a sample, kept or discarded (R120, R121). -/
def Station.sampled (depth : Nat) (sample : Option (Int × Int)) (r : Station) : Station :=
  match sample with
  | none => { r with discarded := satInc r.discarded }
  | some (o, d) => (r.counted depth o d).readied

@[simp] theorem Station.filterSample_keeps (depth : Nat) (o d : Int) (r : Station) :
    (r.filterSample depth o d).state = r.state ∧ (r.filterSample depth o d).streak = r.streak ∧
      (r.filterSample depth o d).goodProbes = r.goodProbes ∧ (r.filterSample depth o d).goodTotal = r.goodTotal ∧
      (r.filterSample depth o d).discarded = r.discarded := by
  unfold Station.filterSample
  cases r.offset <;> exact ⟨rfl, rfl, rfl, rfl, rfl⟩

/-- The first good sample is loaded outright (R121). -/
theorem Station.filterSample_first {r : Station} (h : r.offset = none) (depth : Nat) (o d : Int) :
    (r.filterSample depth o d).offset = some o ∧ (r.filterSample depth o d).delay = d.toNat := by
  simp [Station.filterSample, h]

/-- A later good sample moves offset and delay by a part of the difference (R121). -/
theorem Station.filterSample_later {r : Station} {old : Int} (h : r.offset = some old) (depth : Nat) (o d : Int) :
    (r.filterSample depth o d).offset =
        some ((old + ((o - old).bmod 4294967296).tdiv ((2 ^ depth : Nat) : Int)).bmod 4294967296) ∧
      (r.filterSample depth o d).delay =
        ((r.delay : Int) + (d - r.delay).tdiv ((2 ^ depth : Nat) : Int)).toNat := by
  simp only [Station.filterSample, h]
  exact ⟨rfl, rfl⟩

/-! ### The steps of a reply (R105, R116, R121) -/

/-- The bus with one station's record changed. -/
def Pbc.onStation (st : Nat) (f : Station → Station) (b : Pbc) : Pbc := { b with stations := upd1 b.stations st f }

theorem Pbc.onStation_onStation (st : Nat) (f g : Station → Station) (b : Pbc) :
    (b.onStation st f).onStation st g = b.onStation st (g ∘ f) := by
  simp only [Pbc.onStation, upd1_upd1]

theorem Pbc.onStation_congr {st : Nat} {f g : Station → Station} {b : Pbc}
    (h : f (nth1 b.stations st) = g (nth1 b.stations st)) : b.onStation st f = b.onStation st g := by
  simp only [Pbc.onStation, upd1_congr h]

theorem Pbc.onStation_eq_self {st : Nat} {f : Station → Station} {b : Pbc}
    (h : f (nth1 b.stations st) = nth1 b.stations st) : b.onStation st f = b := by
  simp only [Pbc.onStation, upd1_eq_self h]

/-- A taken reply leaves its tally at its station, and the bus with no exchange, free 20 µs later (R104, R107). -/
theorem replied_pbc (st tally : Nat) (s : State) :
    (replied st tally s).pbc =
      { s.pbc.onStation st (Station.tallied tally) with
        exchange := none, attention := none, freeAt := s.now + 20 } := rfl

/-- A success changes the record of its station alone (R116). -/
theorem stationSuccess_pbc (st : Nat) (s : State) :
    (stationSuccess st s).pbc = s.pbc.onStation st Station.succeeded := by
  unfold stationSuccess
  cases hs : nth1 s.pbc.stations st |>.state
  all_goals simp only [State.station, hs]
  case joining | ready => exact Pbc.onStation_congr (by simp only [Station.succeeded, hs])
  case suspect =>
    simp only [raiseStation_frame]
    exact Pbc.onStation_congr (by simp only [Station.succeeded, hs])
  case absent | cut => exact (Pbc.onStation_eq_self (by simp only [Station.succeeded, hs])).symm

theorem goodProbe_eq (st : Nat) (o d : Int) (s : State) :
    goodProbe st o d s =
      let u := s.onStation st (Station.counted s.pbc.probeDepth o d)
      if (u.station st).state = .joining ∧ 4 ≤ (u.station st).goodProbes then
        raiseStation st .goodProbes (u.onStation st fun r => { r with state := .ready, streak := 0 })
      else u := rfl

/-- A sample changes the record of its station alone (R120, R121). -/
theorem takeSample_pbc {st : Nat} {s : State} (h1 : 1 ≤ st) (hst : st ≤ s.pbc.stations.length) (t1 t2 t3 t4 : Nat) :
    (takeSample st t1 t2 t3 t4 s).pbc =
      s.pbc.onStation st (Station.sampled s.pbc.probeDepth (probeSample t1 t2 t3 t4)) := by
  unfold takeSample
  cases probeSample t1 t2 t3 t4 with
  | none => rfl
  | some sample =>
    obtain ⟨o, d⟩ := sample
    have hself : (s.onStation st (Station.counted s.pbc.probeDepth o d)).station st =
        (nth1 s.pbc.stations st).counted s.pbc.probeDepth o d := nth1_upd1_self _ _ _ h1 hst
    simp only [goodProbe_eq, hself]
    split
    · next hfourth =>
      simp only [raiseStation_frame]
      refine (Pbc.onStation_onStation ..).trans (Pbc.onStation_congr ?_)
      simp only [Function.comp_apply, Station.sampled, Station.readied, if_pos hfourth]
    · next hfew =>
      refine Pbc.onStation_congr ?_
      simp only [Station.sampled, Station.readied, if_neg hfew]

/-- The reply to a probe leaves its station's record with tally, success and sample, and no exchange (R105). -/
theorem exec_probeReply {s : State} {st : Nat} {x : Exchange} (hreset : s.inReset = false) (h1 : 1 ≤ st)
    (hst : st ≤ s.pbc.stations.length) (hx : s.pbc.exchange = some x) (hstation : x.station = st)
    (hframe : x.frame = .probe) (tally t2 t3 t4 : Nat) :
    ∃ t, exec (.probeReply st tally t2 t3 t4) s = .next t ∧ t.pbc.exchange = none ∧
      t.station st = (((s.station st).tallied tally).succeeded).sampled s.pbc.probeDepth
        (probeSample x.sendTime t2 t3 t4) ∧
      (∀ n, n ≠ st → t.station n = s.station n) ∧ t.pdu = s.pdu ∧ t.scu = s.scu ∧ t.tmu = s.tmu ∧
      t.store = s.store ∧ t.now = s.now := by
  have hfate : replyFate s st OutFrame.takesProbeReply = .reply x := by
    simp [replyFate, hx, hstation, hframe, OutFrame.takesProbeReply]
  have hexec : exec (.probeReply st tally t2 t3 t4) s =
      .next (takeSample st x.sendTime t2 t3 t4 (stationSuccess st (replied st tally s))) := by
    change live (probeReplyStep st tally t2 t3 t4) s = _
    rw [live_next _ _ hreset, probeReplyStep, hfate]
  have hlen : st ≤ (stationSuccess st (replied st tally s)).pbc.stations.length := by
    simpa [stationSuccess_pbc, replied_pbc, Pbc.onStation] using hst
  have hpbc := takeSample_pbc h1 hlen x.sendTime t2 t3 t4
  rw [stationSuccess_pbc, replied_pbc] at hpbc
  refine ⟨_, hexec, by rw [hpbc]; rfl, ?_, fun n hn => ?_, ?_⟩
  · rw [State.station, hpbc]
    simp only [Pbc.onStation, upd1_upd1]
    exact nth1_upd1_self _ _ _ h1 hst
  · rw [State.station, hpbc]
    simp only [Pbc.onStation, upd1_upd1]
    exact nth1_upd1_other _ _ _ _ hn
  · simp [replied]

/-! ### The sample (R120, R121) -/

/-- The delay that a probe's sample measures (R120). -/
def probeDelay (t1 t2 t3 t4 : Nat) : Int := (((t4 : Int) - t1) - ((t3 : Int) - t2).bmod 4294967296).tdiv 2

/-- A sample that is discarded: its round trip is too long, or its hold or its delay negative (R120). -/
def SampleBad (t1 t2 t3 t4 : Nat) : Prop :=
  2000 < (t4 : Int) - t1 ∨ ((t3 : Int) - t2).bmod 4294967296 < 0 ∨ probeDelay t1 t2 t3 t4 < 0

theorem probeSample_bad {t1 t2 t3 t4 : Nat} (h : SampleBad t1 t2 t3 t4) : probeSample t1 t2 t3 t4 = none := if_pos h

theorem probeSample_good {t1 t2 t3 t4 : Nat} (h : ¬ SampleBad t1 t2 t3 t4) :
    probeSample t1 t2 t3 t4 =
      some (((t2 : Int) - t1 - probeDelay t1 t2 t3 t4).bmod 4294967296, probeDelay t1 t2 t3 t4) := if_neg h

theorem Station.counted_of_joining {r : Station} (h : r.state = .joining) (depth : Nat) (o d : Int) :
    r.counted depth o d =
      { r.filterSample depth o d with goodTotal := r.goodTotal + 1, goodProbes := r.goodProbes + 1 } := by
  simp only [Station.counted, Station.filterSample_keeps, h, if_true]

theorem Station.counted_of_not_joining {r : Station} (h : r.state ≠ .joining) (depth : Nat) (o d : Int) :
    r.counted depth o d = { r.filterSample depth o d with goodTotal := r.goodTotal + 1 } := by
  simp only [Station.counted, Station.filterSample_keeps, h, if_false]

/-- A success of a JOINING station ends its streak (R116). -/
theorem Station.succeeded_of_joining {r : Station} (h : r.state = .joining) : r.succeeded = { r with streak := 0 } := by
  simp only [Station.succeeded, h]

/-- A CUT or ABSENT station has no success (R116). -/
theorem Station.succeeded_of_out {r : Station} (h : r.state = .cut ∨ r.state = .absent) : r.succeeded = r := by
  obtain h | h := h <;> simp only [Station.succeeded, h]

/-- Becoming READY changes state and streak alone (R121). -/
@[simp] theorem Station.readied_keeps (r : Station) :
    r.readied.offset = r.offset ∧ r.readied.delay = r.delay ∧ r.readied.goodProbes = r.goodProbes ∧
      r.readied.goodTotal = r.goodTotal ∧ r.readied.discarded = r.discarded := by
  unfold Station.readied
  split <;> exact ⟨rfl, rfl, rfl, rfl, rfl⟩

theorem Station.readied_state (r : Station) :
    r.readied.state = if r.state = .joining ∧ 4 ≤ r.goodProbes then .ready else r.state := by
  unfold Station.readied
  split <;> rfl

theorem Station.readied_streak {r : Station} (h : r.streak = 0) : r.readied.streak = 0 := by
  unfold Station.readied
  split
  · rfl
  · exact h

/-- A JOINING station's record after the sample of a good probe (R121). -/
theorem Station.sampled_joining {r : Station} (hj : r.state = .joining) (hstreak : r.streak = 0) (depth : Nat)
    (o d : Int) :
    let r' := r.sampled depth (some (o, d))
    r'.offset = (r.filterSample depth o d).offset ∧ r'.delay = (r.filterSample depth o d).delay ∧
      r'.goodProbes = r.goodProbes + 1 ∧ r'.goodTotal = r.goodTotal + 1 ∧ r'.streak = 0 ∧
      (r.goodProbes = 3 → r'.state = .ready) ∧ (r.goodProbes < 3 → r'.state = .joining) := by
  simp only [Station.sampled, Station.counted_of_joining hj, Station.readied_keeps, Station.readied_state,
    Station.filterSample_keeps, hj, true_and]
  refine ⟨Station.readied_streak (by simp [hstreak]), fun h3 => ?_, fun hfew => ?_⟩
  · simp [h3]
  · rw [if_neg (by omega)]

/-- A CUT or ABSENT station's record after the sample of a good probe (R121). -/
theorem Station.sampled_out {r : Station} (h : r.state = .cut ∨ r.state = .absent) (depth : Nat) (o d : Int) :
    let r' := r.sampled depth (some (o, d))
    r'.state = r.state ∧ r'.goodTotal = r.goodTotal + 1 ∧ r'.discarded = r.discarded := by
  have hj : r.state ≠ .joining := by
    obtain h | h := h <;> simp [h]
  simp [Station.sampled, Station.counted_of_not_joining hj, Station.readied_state, hj]

end Sys2Proof.Machine

/-! ## A JOIN (R98, R112, R115) -/

namespace Sys2Proof.Machine

/-- A station's record at its entry to JOINING with a lead (R115). -/
def Station.rejoined (lead now : Nat) (r : Station) : Station :=
  { r with
    state := .joining, lead := if lead < 200000 then lead else 200000, offset := none
    patches := List.replicate 8 none, streak := 0, goodProbes := 0, lossCounter := 0
    starved := false, nextProbe := some now, nextPoll := none }

/-- An entry of a station that rejoins: an open one is QUEUED again (R98). -/
def Entry.rejoined (e : Entry) : Entry :=
  if e.state = .sent ∨ e.state = .acked then
    { e with
      state := .queued, resends := 0, cancelPending := false, cancelOffered := false
      ackDeadline := none, doneDeadline := none, resendDue := false, held := false }
  else e

theorem Entry.isOpen_iff (e : Entry) : e.isOpen = true ↔ e.state = .sent ∨ e.state = .acked := by
  simp [Entry.isOpen]

/-- The entry to JOINING changes the record of its station alone (R115). -/
theorem enterJoining_pbc (st lead : Nat) (r : StationReason) (s : State) :
    (enterJoining st (some lead) r s).pbc =
      { s.pbc.onStation st (Station.rejoined lead s.now) with atOnce := true } := by
  have hlead : min lead Config.leadMax = if lead < 200000 then lead else 200000 := by
    simp only [Config.leadMax]
    split <;> omega
  simp only [enterJoining, raiseStation_frame, stationCutCondition_frame, hlead]
  rfl

/-- Outside HOLD a rejoin discards no entry (R98). -/
theorem rejoinQueue_of_not_hold {s : State} (h : s.scu.showState ≠ .hold) (st : Nat) :
    rejoinQueue st s = s.onQueue st fun q => q.map Entry.rejoined := by
  have hmap : (fun q : List Entry => q.map Entry.rejoined) = fun q => q.map fun e =>
      if e.isOpen then
        { e with
          state := .queued, resends := 0, cancelPending := false, cancelOffered := false
          ackDeadline := none, doneDeadline := none, resendDue := false, held := false }
      else e := by
    simp only [Entry.isOpen_iff]
    rfl
  have hgone : (s.queue st).filter (fun e =>
      e.isOpen && s.scu.showState == .hold && e.origin == .cue) = [] := by
    simp [h]
  rw [rejoinQueue, hgone, hmap]
  rfl

/-- The PBC takes a JOIN at the head of the report queue (R112). -/
theorem exec_joinReport {s : State} {st lead : Nat} {rest : List (Nat × Report)} (hreset : s.inReset = false)
    (hreports : s.pbc.reports = (st, .join lead) :: rest) :
    exec .joinReport s = .next (takeJoin st lead (dropReport s)) := by
  change live joinStep s = _
  rw [live_next _ _ hreset, joinStep, hreports]
  rfl

theorem takeJoin_unlisted {s : State} {st : Nat} (h : st ∉ s.store.roster) (lead : Nat) :
    takeJoin st lead s = raiseUnlisted st s := if_pos (by simpa using h)

/-- A roster station's JOIN enters it in JOINING, a READY or SUSPECT one's open entries dealt with first (R98). -/
theorem takeJoin_listed {s : State} {st : Nat} (h : st ∈ s.store.roster) (lead : Nat) :
    takeJoin st lead s = enterJoining st (some lead) .join
      (if (s.station st).state = .ready ∨ (s.station st).state = .suspect then rejoinQueue st s else s) := by
  have hlisted : ¬ s.store.roster.contains st = false := by simpa using h
  rw [takeJoin, if_neg hlisted]
  cases (s.station st).state <;> rfl

/-- A JOIN leaves the report queue and, of a roster station, enters it in JOINING; no other station's record changes
(R98, R112, R115). -/
theorem joinReport_joins {s : State} {st lead : Nat} {rest : List (Nat × Report)} (hreset : s.inReset = false)
    (h1 : 1 ≤ st) (hst : st ≤ s.pbc.stations.length) (hq : st ≤ s.pdu.queues.length)
    (hreports : s.pbc.reports = (st, .join lead) :: rest) (hlisted : st ∈ s.store.roster) :
    ∃ t, exec .joinReport s = .next t ∧ t.pbc.reports = rest ∧ t.tmu = s.tmu ∧ t.store = s.store ∧
      t.cue = s.cue ∧ t.clu = s.clu ∧ t.vu = s.vu ∧ t.now = s.now ∧
      (∀ k, k ≠ st → t.station k = s.station k) ∧ t.station st = (s.station st).rejoined lead s.now ∧
      (¬ ((s.station st).state = .ready ∨ (s.station st).state = .suspect) → t.pdu = s.pdu ∧ t.scu = s.scu) ∧
      ((s.station st).state = .ready ∨ (s.station st).state = .suspect → s.scu.showState ≠ .hold →
        t.scu = s.scu ∧ t.queue st = (s.queue st).map Entry.rejoined) := by
  have hexec := exec_joinReport hreset hreports
  rw [takeJoin_listed (s := dropReport s) hlisted, show (dropReport s).station st = s.station st from rfl] at hexec
  have hjoined : ∀ u : State, u.pbc = (dropReport s).pbc → u.now = s.now →
      (enterJoining st (some lead) .join u).pbc.reports = rest ∧
        (∀ k, k ≠ st → (enterJoining st (some lead) .join u).station k = s.station k) ∧
        (enterJoining st (some lead) .join u).station st = (s.station st).rejoined lead s.now := by
    intro u hu hnow
    simp only [State.station, enterJoining_pbc, hu, hnow]
    exact ⟨congrArg List.tail hreports, fun k hk => nth1_upd1_other _ _ _ _ hk, nth1_upd1_self _ _ _ h1 hst⟩
  by_cases hback : (s.station st).state = .ready ∨ (s.station st).state = .suspect
  · rw [if_pos hback] at hexec
    obtain ⟨hrest, hothers, hself⟩ := hjoined (rejoinQueue st (dropReport s)) (by simp) (by simp [dropReport])
    refine ⟨_, hexec, hrest, by simp [dropReport], by simp [dropReport], by simp [dropReport], by simp [dropReport],
      by simp [dropReport], by simp [dropReport], hothers, hself, fun h => absurd hback h, fun _ hshow => ?_⟩
    have hqueue : ((dropReport s).onQueue st fun q => q.map Entry.rejoined).queue st =
        (s.queue st).map Entry.rejoined := nth1_upd1_self _ _ _ h1 hq
    simp only [rejoinQueue_of_not_hold (s := dropReport s) hshow, State.queue, enterJoining_frame]
    exact ⟨by simp [dropReport], hqueue⟩
  · rw [if_neg hback] at hexec
    obtain ⟨hrest, hothers, hself⟩ := hjoined (dropReport s) rfl rfl
    exact ⟨_, hexec, hrest, by simp [dropReport], by simp [dropReport], by simp [dropReport], by simp [dropReport],
      by simp [dropReport], by simp [dropReport], hothers, hself, fun _ => by simp [dropReport],
      fun h => absurd h hback⟩

/-- A JOIN of a station that the roster does not list leaves the report queue, and is told in a notice alone
(R112). -/
theorem joinReport_unlisted {s : State} {st lead : Nat} {rest : List (Nat × Report)} (hreset : s.inReset = false)
    (hreports : s.pbc.reports = (st, .join lead) :: rest) (hlisted : st ∉ s.store.roster) :
    ∃ t, exec .joinReport s = .next t ∧ t.pbc = { s.pbc with reports := rest } ∧ t.tmu = s.tmu ∧ t.store = s.store ∧
      t.cue = s.cue ∧ t.clu = s.clu ∧ t.vu = s.vu ∧ t.now = s.now ∧ t.pdu = s.pdu ∧ t.scu = s.scu := by
  have hexec := exec_joinReport hreset hreports
  rw [takeJoin_unlisted (s := dropReport s) hlisted] at hexec
  refine ⟨_, hexec, ?_⟩
  simp [raiseUnlisted, dropReport, hreports]

/-- Settles O54: the JOIN by the roster and the state of its station, the probe by its sample. -/
theorem joiningStationIsMeasuredAndReady : Obligations.JoiningStationIsMeasuredAndReady := by
  refine ⟨?_, ?_, ?_⟩
  · intro s st lead rest hreset h1 h14 hlen hq hreports
    by_cases hlisted : st ∈ s.store.roster
    · obtain ⟨t, hexec, hrest, htmu, hstore, hcue, hclu, hvu, hnow, hothers, hself, hkept, hback⟩ :=
        joinReport_joins hreset h1 (hlen ▸ h14) (hq ▸ h14) hreports hlisted
      refine ⟨t, hexec, hrest, htmu, hstore, hcue, hclu, hvu, hnow, fun k _ _ hk => hothers k hk,
        fun h => absurd hlisted h, fun _ => ⟨hself, fun hstate => hkept ?_, hback⟩⟩
      obtain h | h | h := hstate <;> simp [h]
    · obtain ⟨t, hexec, hpbc, htmu, hstore, hcue, hclu, hvu, hnow, hpdu, hscu⟩ :=
        joinReport_unlisted hreset hreports hlisted
      have hstations : t.pbc.stations = s.pbc.stations := by rw [hpbc]
      exact ⟨t, hexec, by rw [hpbc], htmu, hstore, hcue, hclu, hvu, hnow,
        fun k _ _ _ => State.station_congr hstations k, fun _ => ⟨hstations, hpdu, hscu⟩, fun h => absurd h hlisted⟩
  · intro s st tally t2 t3 t4 x hreset h1 h14 hlen hx hxst hframe hjoining k hold d sample part bad
    obtain ⟨t, hexec, hexch, hself, hothers, hpdu, hscu, htmu, hstore, hnow⟩ :=
      exec_probeReply hreset h1 (hlen ▸ h14) hx hxst hframe tally t2 t3 t4
    have hjoin : (k.tallied tally).succeeded = { k.tallied tally with streak := 0 } :=
      Station.succeeded_of_joining hjoining
    rw [hjoin] at hself
    have hrest : (∀ n, 1 ≤ n → n ≤ 14 → n ≠ st → t.station n = s.station n) ∧ t.pdu = s.pdu ∧ t.scu = s.scu ∧
        t.tmu = s.tmu ∧ t.store = s.store ∧ t.now = s.now :=
      ⟨fun n _ _ hn => hothers n hn, hpdu, hscu, htmu, hstore, hnow⟩
    by_cases hbad : SampleBad x.sendTime t2 t3 t4
    · rw [probeSample_bad hbad] at hself
      refine ⟨t, hexec, hexch, by rw [hself]; rfl, fun _ => ?_, fun hgood => absurd hbad hgood, hrest⟩
      rw [hself]
      exact ⟨rfl, rfl, hjoining, rfl, rfl⟩
    · rw [probeSample_good hbad] at hself
      obtain ⟨hoffset, hdelay, hcount, htotal, hstreak, hfourth, hfew⟩ :=
        Station.sampled_joining (r := { k.tallied tally with streak := 0 }) hjoining rfl s.pbc.probeDepth
          (((t2 : Int) - x.sendTime - probeDelay x.sendTime t2 t3 t4).bmod 4294967296)
          (probeDelay x.sendTime t2 t3 t4)
      rw [← hself] at hoffset hdelay hcount htotal hstreak hfourth hfew
      refine ⟨t, hexec, hexch, hstreak, fun h => absurd h hbad, fun _ => ⟨fun hnone => ?_, fun o ho => ?_, hcount,
        htotal, hfourth, hfew⟩, hrest⟩
      · rw [hoffset, hdelay]
        exact Station.filterSample_first (r := { k.tallied tally with streak := 0 }) hnone ..
      · rw [hoffset, hdelay]
        exact Station.filterSample_later (r := { k.tallied tally with streak := 0 }) ho ..
  · intro s st tally t2 t3 t4 x hreset h1 h14 hlen hx hxst hframe hout hold bad
    obtain ⟨t, hexec, hexch, hself, -⟩ := exec_probeReply hreset h1 (hlen ▸ h14) hx hxst hframe tally t2 t3 t4
    have hnone : ((s.station st).tallied tally).succeeded = (s.station st).tallied tally :=
      Station.succeeded_of_out hout
    rw [hnone] at hself
    by_cases hbad : SampleBad x.sendTime t2 t3 t4
    · rw [probeSample_bad hbad] at hself
      refine ⟨t, hexec, hexch, by rw [hself]; rfl, fun _ => ?_, fun hgood => absurd hbad hgood⟩
      rw [hself]
      exact ⟨rfl, rfl⟩
    · rw [probeSample_good hbad] at hself
      obtain ⟨hstate, htotal, hdiscarded⟩ := Station.sampled_out (r := (s.station st).tallied tally) hout
        s.pbc.probeDepth (((t2 : Int) - x.sendTime - probeDelay x.sendTime t2 t3 t4).bmod 4294967296)
        (probeDelay x.sendTime t2 t3 t4)
      rw [← hself] at hstate htotal hdiscarded
      exact ⟨t, hexec, hexch, hstate, fun h => absurd h hbad, fun _ => ⟨hdiscarded, htotal⟩⟩

end Sys2Proof.Machine

/-! ## The frame that a free bus carries (R86, R88, R103, R104, R108) -/

namespace Sys2Proof.Machine

/-! ### The arbiter's choice (R108) -/

/-- Without a broadcast poll due the arbiter chooses a PROBE or a POLL, or an entry's CANCEL or APPLY. -/
theorem arbiter_cases {s : State} {c : Candidate} (hb : s.pbc.broadcastDue = false) (h : arbiter s = some c) :
    (c.entry = none ∧ (c.frame = .probe ∨ c.frame = .poll false ∨ c.frame = .poll true)) ∨
      ∃ e, c.entry = some e ∧ c.station = e.station ∧
        (c.frame = .cancel e.layer e.patch ∨ c.frame = applyFrame s e) := by
  have horder : starvedPoll s = some c ∨ cancelCandidate s = some c ∨ applyCandidate s = some c ∨
      probeCandidate s = some c ∨ recoveryCandidate s = some c := by
    simp only [arbiter, hb, Bool.false_eq_true, if_false, Option.orElse_eq_or, Option.or_eq_some_iff] at h
    tauto
  simp only [starvedPoll, cancelCandidate, applyCandidate, probeCandidate, recoveryCandidate,
    Option.map_eq_some_iff] at horder
  obtain ⟨n, -, rfl⟩ | ⟨e, -, rfl⟩ | ⟨e, -, rfl⟩ | ⟨n, -, rfl⟩ | ⟨n, -, rfl⟩ := horder
  · exact .inl ⟨rfl, .inr (.inl rfl)⟩
  · exact .inr ⟨e, rfl, rfl, .inl rfl⟩
  · exact .inr ⟨e, rfl, rfl, .inr rfl⟩
  · exact .inl ⟨rfl, .inl rfl⟩
  · exact .inl ⟨rfl, .inr (.inr rfl)⟩

/-- The first time at which an APPLY sent now to a station can land (R88). -/
def State.landing (s : State) (st : Nat) : Nat := s.now + (s.station st).lead + (s.station st).delay

/-- An APPLY of an entry that does not ask for NOW and can land in time is timed by the station's offset, and any other
is ASAP (R88). -/
theorem applyFrame_eq (s : State) (e : Entry) :
    applyFrame s e = .apply e.layer e.patch
      (if e.form ≠ .now ∧ s.landing e.station ≤ e.landTime then
        some (((e.landTime : Int) + (s.station e.station).offset.getD 0) % 4294967296).toNat
      else none) := by
  unfold applyFrame
  dsimp only
  by_cases h : e.form ≠ .now ∧ s.landing e.station ≤ e.landTime
  · rw [if_pos h]
    exact if_pos h
  · rw [if_neg h]
    exact if_neg h

/-! ### The bus as a frame begins (R103, R104, R118, R119) -/

/-- A station's record once a frame to it has begun: counted, and the next PROBE or recovery POLL set (R118, R119). -/
def Station.begun (f : OutFrame) (now : Nat) (r : Station) : Station :=
  let r := { r with framesSent := r.framesSent + 1 }
  match f with
  | .probe => { r with nextProbe := some (now + if r.state = .joining then 10000 else 250000) }
  | .poll true => { r with nextPoll := some (now + 1000000) }
  | _ => r

@[simp] theorem Station.begun_keeps (f : OutFrame) (now : Nat) (r : Station) :
    (r.begun f now).framesSent = r.framesSent + 1 ∧ (r.begun f now).state = r.state := by
  unfold Station.begun
  split <;> exact ⟨rfl, rfl⟩

/-- The part with a candidate's exchange opened now and its frame counted (R104). -/
def State.opened (c : Candidate) (s : State) : State :=
  ((s.onPbc fun b => { b with lastFrame := some (c.station, c.frame), atOnce := false }).onPbc fun b =>
    { b with exchange := some ⟨c.station, c.frame, s.now, (c.entry.map Entry.seq).getD 0⟩ }).onStation c.station
      fun r => { r with framesSent := r.framesSent + 1 }

/-- Opening an exchange keeps what the landing of an APPLY hangs on. -/
theorem State.opened_landing (c : Candidate) (s : State) (n : Nat) : (s.opened c).landing n = s.landing n := by
  simp only [State.landing, State.opened, State.station_onStation]
  split <;> rfl

section SendFrame

variable {c : Candidate} {s : State}

theorem sendFrame_apply {layer patch : Nat} {land : Option Nat} {e : Entry} (hf : c.frame = .apply layer patch land)
    (he : c.entry = some e) : sendFrame c s = markSent e (s.opened c) := by
  obtain ⟨n, f, o⟩ := c
  subst hf he
  rfl

theorem sendFrame_cancel {layer patch : Nat} {e : Entry} (hf : c.frame = .cancel layer patch)
    (he : c.entry = some e) :
    sendFrame c s = (s.opened c).onEntry e.station e.seq fun d => { d with cancelOffered := false } := by
  obtain ⟨n, f, o⟩ := c
  subst hf he
  rfl

/-- A PROBE and a POLL leave the PDU as it is. -/
theorem sendFrame_pdu_of_poll (hf : c.frame = .probe ∨ c.frame = .poll false ∨ c.frame = .poll true) :
    (sendFrame c s).pdu = s.pdu := by
  obtain ⟨n, f, o⟩ := c
  obtain rfl | rfl | rfl := hf <;> rfl

/-- A frame that begins opens its exchange and changes the record of its station alone. -/
theorem sendFrame_pbc (hf : c.frame ≠ .broadcastPoll) :
    (sendFrame c s).pbc =
      { s.pbc.onStation c.station (Station.begun c.frame s.now) with
        lastFrame := some (c.station, c.frame)
        atOnce := false
        exchange := some ⟨c.station, c.frame, s.now, (c.entry.map Entry.seq).getD 0⟩ } := by
  obtain ⟨n, f, o⟩ := c
  cases f with
  | broadcastPoll => exact absurd rfl hf
  | apply layer patch land =>
    cases o with
    | none => rfl
    | some e =>
      simp only [sendFrame, markSent_frame]
      rfl
  | cancel layer patch => cases o <;> rfl
  | probe =>
    simp only [sendFrame, State.onPbc, State.onStation, Pbc.onStation, upd1_upd1]
    rfl
  | poll recovery =>
    cases recovery with
    | false => rfl
    | true =>
      simp only [sendFrame, State.onPbc, State.onStation, Pbc.onStation, upd1_upd1]
      rfl
  | ackReport => rfl
  | nakReport => rfl

end SendFrame

/-! ### The entry sent (R88, R97) -/

/-- An entry's APPLY is sent too late to land in time (R88). -/
def Entry.sentLate (landing : Nat) (e : Entry) : Bool := e.form != .now && !decide (landing ≤ e.landTime)

/-- An entry as the APPLY of an entry leaves it that is sent now and can land from a time on (R88). -/
def Entry.sentAs (now landing : Nat) (e x : Entry) : Entry :=
  { x with
    state := .sent
    late := x.late || e.sentLate landing
    resendDue := false
    ackDeadline := some (now + 2000)
    doneDeadline := some ((if e.form != .now && decide (landing ≤ e.landTime) then e.landTime else landing) + 50000) }

theorem Entry.sentLate_iff (landing : Nat) (e : Entry) :
    e.sentLate landing = true ↔ e.form ≠ .now ∧ ¬ landing ≤ e.landTime := by
  simp [Entry.sentLate]

theorem Entry.sentAs_late (now landing : Nat) (e x : Entry) :
    (e.sentAs now landing x).late = (x.late || e.sentLate landing) := rfl

theorem Entry.sentAs_doneDeadline (now landing : Nat) (e x : Entry) :
    (e.sentAs now landing x).doneDeadline =
      some ((if e.form ≠ .now ∧ landing ≤ e.landTime then e.landTime else landing) + 50000) := by
  simp [Entry.sentAs]

/-- Where a sequence number is one entry's alone, a change by it is that of the entry. -/
theorem onEntry_map_eq {q : List Entry} {e e' : Entry} {f : Entry → Entry} (he : f e = e')
    (hseq : ∀ d ∈ q, d.seq = e.seq → d = e) :
    (q.map fun d => if d.seq = e.seq then f d else d) = q.map fun d => if d = e then e' else d := by
  refine List.map_congr_left fun d hd => ?_
  by_cases h : d.seq = e.seq
  · simp [hseq d hd h, he]
  · have hne : d ≠ e := fun h' => h (h' ▸ rfl)
    simp [h, hne]

/-- An entry of a queue stands in it changed, once the entry of its sequence number is. -/
theorem mem_onEntry {q : List Entry} {e : Entry} (f : Entry → Entry) (he : e ∈ q) :
    f e ∈ q.map fun d => if d.seq = e.seq then f d else d :=
  List.mem_map.mpr ⟨e, he, if_pos rfl⟩

/-- A station with an entry in its queue is one of the table of queues. -/
theorem State.station_of_mem_queue {s : State} {n : Nat} {e : Entry} (h : e ∈ s.queue n) :
    1 ≤ n ∧ n ≤ s.pdu.queues.length := by
  by_contra hout
  rw [State.queue, nth1_default_of_not _ _ hout] at h
  exact absurd h List.not_mem_nil

theorem State.queue_onEntry_self {s : State} {e : Entry} (he : e ∈ s.queue e.station) (f : Entry → Entry) :
    (s.onEntry e.station e.seq f).queue e.station =
      (s.queue e.station).map fun d => if d.seq = e.seq then f d else d := by
  obtain ⟨h1, hn⟩ := State.station_of_mem_queue he
  exact nth1_upd1_self _ _ _ h1 hn

theorem State.queue_onEntry_other (s : State) (e : Entry) (f : Entry → Entry) {n : Nat} (hn : n ≠ e.station) :
    (s.onEntry e.station e.seq f).queue n = s.queue n := nth1_upd1_other _ _ _ _ hn

/-- A send changes the entry sent, and one that makes it late is counted and raises PATCH_LATE (R88). -/
theorem markSent_eq (e : Entry) (s : State) :
    markSent e s =
      let u := s.onEntry e.station e.seq (Entry.sentAs s.now (s.landing e.station) e)
      if e.sentLate (s.landing e.station) && !e.late then
        raiseEvent .patchLate (u.onClosures e.station fun k => { k with late := k.late + 1 })
      else u := rfl

/-- What an APPLY sent now leaves of its entry's queue and of the count of late ones (R88). -/
theorem markSent_spec {s : State} {e : Entry} {landing : Nat} (hlanding : s.landing e.station = landing)
    (he : e ∈ s.queue e.station) (hc : e.station ≤ s.pdu.closures.length) :
    let t := markSent e s
    let count := (nth1 s.pdu.closures e.station).late
    { t.pdu with queues := s.pdu.queues, closures := s.pdu.closures } = s.pdu ∧
      t.queue e.station =
        ((s.queue e.station).map fun d => if d.seq = e.seq then e.sentAs s.now landing d else d) ∧
      (e.sentLate landing = false → (nth1 t.pdu.closures e.station).late = count) ∧
      (e.sentLate landing = true →
        (nth1 t.pdu.closures e.station).late = (if e.late = true then count else count + 1) ∧
          (e.late = false → t.lku.latched.getLsbD 4 = true)) := by
  subst hlanding
  obtain ⟨h1, -⟩ := State.station_of_mem_queue he
  have hself := State.queue_onEntry_self he (Entry.sentAs s.now (s.landing e.station) e)
  intro t count
  by_cases hnew : (e.sentLate (s.landing e.station) && !e.late) = true
  · have ht : t = _ := (markSent_eq e s).trans (if_pos hnew)
    obtain ⟨hlate, hnot⟩ : e.sentLate (s.landing e.station) = true ∧ e.late = false := by simpa using hnew
    have hcount : (nth1 t.pdu.closures e.station).late = count + 1 := by
      rw [ht, raiseEvent_pdu]
      exact congrArg Closures.late (nth1_upd1_self _ _ _ h1 hc)
    rw [if_neg (by simp [hnot])]
    refine ⟨by rw [ht, raiseEvent_pdu]; rfl, ?_, fun h => ?_, fun _ => ⟨hcount, fun _ => ?_⟩⟩
    · rw [ht, State.queue, raiseEvent_pdu]
      exact hself
    · simp [hlate] at h
    · rw [ht]
      exact (raiseEvent_latched .patchLate _).1
  · have ht : t = _ := (markSent_eq e s).trans (if_neg hnew)
    rw [ht]
    refine ⟨rfl, hself, fun _ => rfl, fun hlate => ?_⟩
    have hbefore : e.late = true := by simpa [hlate] using hnew
    rw [if_pos hbefore]
    exact ⟨rfl, fun h => absurd (hbefore.symm.trans h) (by decide)⟩

/-! ### The header that wins (R103) -/

theorem isStation_iff (n : Nat) : isStation n = true ↔ 1 ≤ n ∧ n ≤ 14 := by simp [isStation]

theorem reached_iff {s : State} (h : s.now < timeMax) (x : Nat) : reached x s = true ↔ x ≤ s.now := by
  have hne : s.now ≠ timeMax := Nat.ne_of_lt h
  simp [reached, hne]

section FreeBus

variable {s : State} {c : Candidate} {rivals : List Nat} {w : Nat}

/-- The lowest of the stations that begin together holds the bus (R103). -/
theorem holdBus_lowest (hw : w ∈ rivals) (hst : 1 ≤ w ∧ w ≤ 14) (hleast : ∀ n ∈ rivals, 1 ≤ n → n ≤ 14 → w ≤ n) :
    holdBus rivals s = s.onPbc fun b => { b with attention := some w } := by
  have hlowest : lowestRival rivals = some w := by
    refine List.min?_eq_some_iff.mpr ⟨List.mem_filter.mpr ⟨hw, (isStation_iff w).mpr hst⟩, fun n hn => ?_⟩
    obtain ⟨hmem, hn⟩ := List.mem_filter.mp hn
    obtain ⟨h1, h14⟩ := (isStation_iff n).mp hn
    exact hleast n hmem h1 h14
  rw [holdBus, hlowest]
  rfl

/-- Where no station begins, nothing takes the bus. -/
theorem holdBus_of_no_rival (h : ∀ n ∈ rivals, ¬ (1 ≤ n ∧ n ≤ 14)) : holdBus rivals s = s := by
  have hnone : lowestRival rivals = none := by
    rw [lowestRival, List.filter_eq_nil_iff.mpr fun n hn => by rw [isStation_iff]; exact h n hn]
    rfl
  rw [holdBus, hnone]
  rfl

/-- The PBC's header wins below every attention that begins with it (R103). -/
theorem beginOnFreeBus_wins (hfree : busIsFree s = true) (ha : arbiter s = some c)
    (hlow : ∀ n ∈ rivals, 1 ≤ n ∧ n ≤ 14 → 2 * c.station < 2 * n + 1) :
    beginOnFreeBus rivals s = sendFrame c s := by
  have hall : (rivals.filter isStation).all (fun n => decide (outHeader c.station < attentionHeader n)) = true := by
    refine List.all_eq_true.mpr fun n hn => decide_eq_true ?_
    obtain ⟨hmem, hst⟩ := List.mem_filter.mp hn
    have hbelow := hlow n hmem ((isStation_iff n).mp hst)
    simp only [outHeader, attentionHeader]
    omega
  rw [beginOnFreeBus, if_pos hfree, ha]
  exact if_pos hall

/-- The PBC's header loses to a lower attention (R103). -/
theorem beginOnFreeBus_loses (hfree : busIsFree s = true) (ha : arbiter s = some c) (hw : w ∈ rivals)
    (hst : 1 ≤ w ∧ w ≤ 14) (hlow : 2 * w + 1 < 2 * c.station) : beginOnFreeBus rivals s = holdBus rivals s := by
  have hnot : ¬ (rivals.filter isStation).all (fun n => decide (outHeader c.station < attentionHeader n)) = true := by
    intro hall
    have hbelow := of_decide_eq_true
      (List.all_eq_true.mp hall w (List.mem_filter.mpr ⟨hw, (isStation_iff w).mpr hst⟩))
    simp only [outHeader, attentionHeader] at hbelow
    omega
  rw [beginOnFreeBus, if_pos hfree, ha]
  exact if_neg hnot

/-- With nothing to send the bus is the stations'. -/
theorem beginOnFreeBus_idle (hfree : busIsFree s = true) (ha : arbiter s = none) :
    beginOnFreeBus rivals s = holdBus rivals s := by
  rw [beginOnFreeBus, if_pos hfree, ha]

/-- A part's commands that begin what there is to send on a free bus (R108). -/
theorem exec_onFreeBus {i : Instr} (hreset : s.inReset = false)
    (hi : i = .busFree rivals ∨ (∃ n, i = .entrySendable n rivals ∧ (s.offer n).isSome = true) ∨
      (∃ n, i = .probeDue n rivals ∧ probeIsDue s n = true) ∨
      (∃ n, i = .recoveryPollDue n rivals ∧ recoveryIsDue s n = true)) :
    exec i s = .next (beginOnFreeBus rivals s) := by
  obtain rfl | ⟨n, rfl, hdue⟩ | ⟨n, rfl, hdue⟩ | ⟨n, rfl, hdue⟩ := hi
  · exact live_next _ _ hreset
  · exact (live_next _ _ hreset).trans (congrArg _ (if_pos hdue))
  · exact (live_next _ _ hreset).trans (congrArg _ (if_pos hdue))
  · exact (live_next _ _ hreset).trans (congrArg _ (if_pos hdue))

end FreeBus

/-- A header that begins in the last 20 µs of quiet holds the bus (R104). -/
theorem exec_busFree_quiet {s : State} {w : Nat} (hreset : s.inReset = false) (hnow : s.now < timeMax)
    (hexch : s.pbc.exchange = none) (hatt : s.pbc.attention = none) (hfree : s.now < s.pbc.freeAt) (h1 : 1 ≤ w)
    (h14 : w ≤ 14) :
    exec (.busFree [w]) s = .next
      (if s.pbc.freeAt ≤ s.now + 20 then s.onPbc fun b => { b with attention := some w } else s) := by
  have hnot : ¬ busIsFree s = true := by
    simp only [busIsFree, hexch, hatt, Bool.and_eq_true, reached_iff hnow]
    omega
  have hquiet : busIsQuiet s = true ↔ s.pbc.freeAt ≤ s.now + 20 := by
    simp only [busIsQuiet, hexch, hatt, Option.isNone_none, Bool.and_self, Bool.true_and, reached_iff hnow,
      Config.busQuiet]
    omega
  have hhold : holdBus [w] s = s.onPbc fun b => { b with attention := some w } :=
    holdBus_lowest (List.mem_singleton_self w) ⟨h1, h14⟩ (by simp)
  rw [exec_onFreeBus hreset (.inl rfl), beginOnFreeBus, if_neg hnot, hhold]
  simp only [hquiet]

/-! ### What the chosen frame leaves (R86, R88, R97, R118, R119) -/

section Chosen

variable {s : State} {c : Candidate}

/-- The arbiter's choice is no broadcast poll where none is due. -/
theorem arbiter_ne_broadcastPoll (hb : s.pbc.broadcastDue = false) (ha : arbiter s = some c) :
    c.frame ≠ .broadcastPoll := by
  obtain ⟨-, h | h | h⟩ | ⟨e, -, -, h | h⟩ := arbiter_cases hb ha <;> simp [h, applyFrame_eq]

/-- The chosen APPLY is that of its entry. -/
theorem arbiter_apply (hb : s.pbc.broadcastDue = false) (ha : arbiter s = some c) {e : Entry} {layer patch : Nat}
    {land : Option Nat} (he : c.entry = some e) (hf : c.frame = .apply layer patch land) :
    applyFrame s e = .apply layer patch land := by
  obtain ⟨hnone, -⟩ | ⟨d, hd, -, h | h⟩ := arbiter_cases hb ha
  · simp [hnone] at he
  · simp [h] at hf
  · obtain rfl : d = e := Option.some.inj (hd.symm.trans he)
    exact h.symm.trans hf

/-- The chosen CANCEL is that of its entry. -/
theorem arbiter_cancel (hb : s.pbc.broadcastDue = false) (ha : arbiter s = some c) {e : Entry} {layer patch : Nat}
    (he : c.entry = some e) (hf : c.frame = .cancel layer patch) : layer = e.layer ∧ patch = e.patch := by
  obtain ⟨hnone, -⟩ | ⟨d, hd, -, h | h⟩ := arbiter_cases hb ha
  · simp [hnone] at he
  · obtain rfl : d = e := Option.some.inj (hd.symm.trans he)
    simpa [eq_comm] using h.symm.trans hf
  · simp [h, applyFrame_eq] at hf

/-- A send of an entry touches the queue of the entry's station alone. -/
theorem markSent_otherQueue (e : Entry) (s : State) {n : Nat} (hn : n ≠ e.station) :
    (markSent e s).queue n = s.queue n := by
  rw [markSent_eq]
  dsimp only
  split
  · rw [State.queue, raiseEvent_pdu]
    exact State.queue_onEntry_other s e _ hn
  · exact State.queue_onEntry_other s e _ hn

/-- The chosen frame leaves the queues of the other stations. -/
theorem sendFrame_otherQueue (hb : s.pbc.broadcastDue = false) (ha : arbiter s = some c) {n : Nat}
    (hn : n ≠ c.station) : (sendFrame c s).queue n = s.queue n := by
  obtain ⟨-, h⟩ | ⟨e, he, hst, h | h⟩ := arbiter_cases hb ha
  · rw [State.queue, sendFrame_pdu_of_poll h, State.queue]
  · rw [sendFrame_cancel h he]
    exact State.queue_onEntry_other (s.opened c) e _ (hst ▸ hn)
  · rw [sendFrame_apply (h.trans (applyFrame_eq s e)) he, markSent_otherQueue e _ (hst ▸ hn)]
    rfl

/-- The record of a frame's own station once the frame has begun (R104, R118, R119). -/
theorem sendFrame_station (hf : c.frame ≠ .broadcastPoll) (h1 : 1 ≤ c.station)
    (hc : c.station ≤ s.pbc.stations.length) :
    (sendFrame c s).station c.station = (s.station c.station).begun c.frame s.now := by
  rw [State.station, sendFrame_pbc hf]
  exact nth1_upd1_self _ _ _ h1 hc

theorem sendFrame_otherStation (hf : c.frame ≠ .broadcastPoll) {n : Nat} (hn : n ≠ c.station) :
    (sendFrame c s).station n = s.station n := by
  rw [State.station, sendFrame_pbc hf]
  exact nth1_upd1_other _ _ _ _ hn

/-- The chosen CANCEL is no longer offered, and every other entry stays (R97). -/
theorem sendFrame_cancelSent {e : Entry} {layer patch : Nat} (he : c.entry = some e)
    (hf : c.frame = .cancel layer patch) (hmem : e ∈ s.queue c.station) (hst : e.station = c.station) :
    let t := sendFrame c s
    { t.pdu with queues := s.pdu.queues } = s.pdu ∧ { e with cancelOffered := false } ∈ t.queue c.station ∧
      ((∀ d ∈ s.queue c.station, d.seq = e.seq → d = e) →
        t.queue c.station = (s.queue c.station).map fun d =>
          if d = e then { e with cancelOffered := false } else d) := by
  rw [← hst] at hmem ⊢
  have hqueue := State.queue_onEntry_self (s := s.opened c) hmem fun d => { d with cancelOffered := false }
  rw [sendFrame_cancel hf he]
  refine ⟨rfl, ?_, fun hseq => hqueue.trans (onEntry_map_eq rfl hseq)⟩
  rw [hqueue]
  exact mem_onEntry (fun d => { d with cancelOffered := false }) hmem

/-- The chosen APPLY makes its entry SENT with its deadlines, timed where it can land in time, and ASAP where it cannot
or its land is NOW; every other entry stays (R88). -/
theorem sendFrame_applySent {e : Entry} {layer patch : Nat} {land : Option Nat} (he : c.entry = some e)
    (hf : c.frame = .apply layer patch land) (hframe : applyFrame s e = .apply layer patch land)
    (hmem : e ∈ s.queue c.station) (hst : e.station = c.station) (hc : c.station ≤ s.pdu.closures.length) :
    let t := sendFrame c s
    let e' := e.sentAs s.now (s.landing c.station) e
    let inTime := s.landing c.station ≤ e.landTime
    let count := (nth1 s.pdu.closures c.station).late
    { t.pdu with queues := s.pdu.queues, closures := s.pdu.closures } = s.pdu ∧ e' ∈ t.queue c.station ∧
      ((∀ d ∈ s.queue c.station, d.seq = e.seq → d = e) →
        t.queue c.station = (s.queue c.station).map fun d => if d = e then e' else d) ∧
      layer = e.layer ∧ patch = e.patch ∧
      (e.form ≠ .now → inTime → e'.doneDeadline = some (e.landTime + 50000) ∧ e'.late = e.late ∧
        land = some (((e.landTime : Int) + (s.station c.station).offset.getD 0) % 4294967296).toNat ∧
        (nth1 t.pdu.closures c.station).late = count) ∧
      (e.form = .now → land = none ∧ e'.late = e.late ∧ e'.doneDeadline = some (s.landing c.station + 50000) ∧
        (nth1 t.pdu.closures c.station).late = count) ∧
      (e.form ≠ .now → ¬ inTime → land = none ∧ e'.late = true ∧
        e'.doneDeadline = some (s.landing c.station + 50000) ∧
        (nth1 t.pdu.closures c.station).late = (if e.late = true then count else count + 1) ∧
        (e.late = false → t.lku.latched.getLsbD 4 = true)) := by
  rw [← hst] at hmem hc ⊢
  rw [applyFrame_eq, OutFrame.apply.injEq] at hframe
  obtain ⟨hlayer, hpatch, hland⟩ := hframe
  obtain ⟨hpdu, hqueue, hsame, hlate⟩ :=
    markSent_spec (s := s.opened c) (s.opened_landing c e.station) hmem hc
  rw [← sendFrame_apply hf he] at hpdu hqueue hsame hlate
  intro t e' inTime count
  refine ⟨hpdu, ?_, fun hseq => hqueue.trans (onEntry_map_eq rfl hseq), hlayer.symm, hpatch.symm,
    fun hform hin => ?_, fun hform => ?_, fun hform hout => ?_⟩
  · rw [hqueue]
    exact mem_onEntry _ hmem
  · have htimed : e.form ≠ .now ∧ s.landing e.station ≤ e.landTime := ⟨hform, hin⟩
    have hnot : e.sentLate (s.landing e.station) = false :=
      Bool.eq_false_iff.mpr fun h => ((Entry.sentLate_iff ..).mp h).2 hin
    rw [if_pos htimed] at hland
    refine ⟨?_, ?_, hland.symm, hsame hnot⟩
    · rw [Entry.sentAs_doneDeadline, if_pos htimed]
    · rw [Entry.sentAs_late, hnot, Bool.or_false]
  · have hasap : ¬ (e.form ≠ .now ∧ s.landing e.station ≤ e.landTime) := fun h => h.1 hform
    have hnot : e.sentLate (s.landing e.station) = false :=
      Bool.eq_false_iff.mpr fun h => ((Entry.sentLate_iff ..).mp h).1 hform
    rw [if_neg hasap] at hland
    refine ⟨hland.symm, ?_, ?_, hsame hnot⟩
    · rw [Entry.sentAs_late, hnot, Bool.or_false]
    · rw [Entry.sentAs_doneDeadline, if_neg hasap]
  · have hasap : ¬ (e.form ≠ .now ∧ s.landing e.station ≤ e.landTime) := fun h => hout h.2
    have hnew : e.sentLate (s.landing e.station) = true := (Entry.sentLate_iff ..).mpr ⟨hform, hout⟩
    rw [if_neg hasap] at hland
    refine ⟨hland.symm, ?_, ?_, hlate hnew⟩
    · rw [Entry.sentAs_late, hnew, Bool.or_true]
    · rw [Entry.sentAs_doneDeadline, if_neg hasap]

end Chosen

/-- Settles O52: the frame that wins by what it is, then the lower attention, then the quiet after an exchange. -/
theorem freeBusSendsTheChosenFrame : Obligations.FreeBusSendsTheChosenFrame := by
  refine ⟨?_, fun s w hreset hnow hexch hatt hfree h1 h14 => exec_busFree_quiet hreset hnow hexch hatt hfree h1 h14⟩
  intro s i rivals hreset hfree hb hlen hi
  have hexec := exec_onFreeBus hreset hi
  refine ⟨fun c ha h1 h14 hlow => ?_, fun w hw h1 h14 hleast => ⟨fun c ha hlow => ?_, fun ha _ => ?_⟩,
    fun ha _ hnone => ?_⟩
  · rw [beginOnFreeBus_wins hfree ha hlow] at hexec
    have hf := arbiter_ne_broadcastPoll hb ha
    have hpbc := sendFrame_pbc (s := s) hf
    have hself := sendFrame_station (s := s) hf h1 (hlen ▸ h14)
    refine ⟨_, hexec, by rw [hpbc], ⟨_, by rw [hpbc], fun e he => by rw [he]; rfl⟩,
      by rw [hself, (Station.begun_keeps ..).1], by rw [hself, (Station.begun_keeps ..).2],
      fun n _ _ hn => ⟨sendFrame_otherStation hf hn, sendFrame_otherQueue hb ha hn⟩, sendFrame_pdu_of_poll,
      fun hprobe => by rw [hself, hprobe]; rfl, fun hpoll => by rw [hself, hpoll]; rfl, ?_, ?_, ?_⟩
    · intro e layer patch land he hframe hmem hst hclosures r inTime count
      obtain ⟨hpdu, hin, hqueue, hlayer, hpatch, htimed, hnow, hlate⟩ :=
        sendFrame_applySent he hframe (arbiter_apply hb ha he hframe) hmem hst (hclosures ▸ h14)
      exact ⟨hpdu, _, hin, rfl, hqueue, rfl, hlayer, hpatch, htimed, hnow, hlate⟩
    · intro e layer patch he hframe hmem hst
      obtain ⟨hlayer, hpatch⟩ := arbiter_cancel hb ha he hframe
      exact ⟨hlayer, hpatch, sendFrame_cancelSent he hframe hmem hst⟩
    · simp
  · rw [hexec, beginOnFreeBus_loses hfree ha hw ⟨h1, h14⟩ hlow, holdBus_lowest hw ⟨h1, h14⟩ hleast]
  · rw [hexec, beginOnFreeBus_idle hfree ha, holdBus_lowest hw ⟨h1, h14⟩ hleast]
  · rw [hexec, beginOnFreeBus_idle hfree ha, holdBus_of_no_rival hnone]

end Sys2Proof.Machine

/-! ## The probe filter depth (R120 to R122) -/

namespace Sys2Proof.Machine

/-! ### What keeps the depth: the frame of a RESET_SHOW (R170, R175, R176, R194) -/

theorem settleReset_pbc (l : Link) (s : State) : (settleReset l s).pbc = s.pbc := by
  unfold settleReset
  split
  · simp
  · rfl

theorem overrun_pbc (l : Link) (s : State) : (overrun l s).pbc = s.pbc := rfl

theorem answerBad_pbc (l : Link) (s : State) : (answerBad l s).pbc = s.pbc := by
  unfold answerBad
  split
  · exact overrun_pbc l s
  · simp

theorem openOrWhole_pbc (l : Link) (code : Byte) (more : Bool) (p : List Byte) (s : State) :
    (openOrWhole l code more p s).1.pbc = s.pbc := by
  cases more <;> rfl

theorem extendRun_pbc (l : Link) (code : Byte) (more : Bool) (p : List Byte) (x : Run) (s : State) :
    (extendRun l code more p x s).1.pbc = s.pbc := by
  unfold extendRun
  dsimp only
  split
  · exact answerBad_pbc ..
  · split <;> rfl

/-- A good frame's arrival is the Link Unit's affair, but for a RESET_SHOW that it brings to its end (R175, R194). -/
theorem arrive_pbc (l : Link) (code : Byte) (more : Bool) (p : List Byte) (s : State) :
    (arrive l code more p s).1.pbc = s.pbc := by
  refine Eq.trans ?_ (settleReset_pbc l s)
  unfold arrive
  dsimp only
  split
  · split
    · split <;> rfl
    · exact openOrWhole_pbc ..
  · split
    · exact openOrWhole_pbc ..
    · split
      · exact extendRun_pbc ..
      · exact (openOrWhole_pbc ..).trans (answerBad_pbc ..)

/-- A completed request comes to what its judging of the whole payload does to the bus. -/
theorem completed_pbc {judged : List Byte → State → State} (h : ∀ p s, (judged p s).pbc = s.pbc) (l : Link) (code : Nat)
    (p : List Byte) (s : State) : (completed l code p judged s).pbc = s.pbc := by
  have harrive := arrive_pbc l (BitVec.ofNat 8 code) false p s
  unfold completed
  split
  · next heq => rwa [heq] at harrive
  · next heq =>
    rw [heq] at harrive
    exact (h ..).trans harrive

/-- Judging a request whose owner leaves the bus alone leaves it alone (R176). -/
theorem judge_pbc {α : Type} {owner : α → State → Answer} (h : ∀ a s, (owner a s).1.pbc = s.pbc) (l : Link)
    (code : Nat) (rights : Link → Bool) (parse : List Byte → Option α) (reboots : Bool) (p : List Byte) (s : State) :
    (judge l code rights parse owner reboots p s).pbc = s.pbc := by
  unfold judge
  dsimp only
  split
  · exact overrun_pbc l s
  · split
    · simp
    · split
      · simp
      · next a _ => simp [h a]

/-- RESET_SHOW, taken, refused or without room, changes nothing of the bus (R194). -/
theorem judgeReset_pbc (l : Link) (p : List Byte) (s : State) : (judgeReset l p s).pbc = s.pbc := by
  unfold judgeReset
  split
  · simp [resetShowTaken]
  · exact judge_pbc (fun _ _ => rfl) ..

theorem exec_resetShow_pbc {l : Link} {p : List Byte} {s t : State} (h : exec (.resetShow l p) s = .next t) :
    t.pbc = s.pbc := by
  have hnext : live (completed l 27 p (judgeReset l)) s = .next t := h
  cases hreset : s.inReset with
  | true =>
    rw [live_reset _ _ hreset, Host.Outcome.next.injEq] at hnext
    rw [hnext]
  | false =>
    rw [live_next _ _ hreset, Host.Outcome.next.injEq] at hnext
    rw [← hnext, completed_pbc (judgeReset_pbc l)]

/-! ### Start-up (R193) -/

theorem startUp_probeDepth (s : State) : (startUp s).pbc.probeDepth = 3 := rfl

/-- The last byte of a REBOOT response, sent, brings the part to its start-up state (R177). -/
theorem exec_rebootTakesEffect {s : State} {l : Link} {x : Tx} (hreset : s.inReset = false)
    (htx : (s.lku.link l).tx = some x) (hreboots : x.reboots = true) (hend : x.endTime ≤ s.now) :
    exec .rebootTakesEffect s = .next (startUp s) := by
  have hdue : rebootDue s = true := by
    refine List.any_eq_true.mpr ⟨l, by cases l <;> decide, ?_⟩
    simp [htx, hreboots, reached, hend]
  change live (fun s => if rebootDue s then startUp s else s) s = _
  rw [live_next _ _ hreset, if_pos hdue]

/-! ### A request without the right to its link (R176, R178) -/

theorem live_request_refused {α : Type} {l : Link} {c : Nat} {p whole : List Byte} {s : State}
    (h : Completes l c p whole s) {rights : Link → Bool} (hr : rights l = false) (parse : List Byte → Option α)
    (owner : α → State → Answer) :
    live (request l c rights parse owner p) s =
      .next (answer l c .refusedRight [] ((taken l s).onLink l fun r => { r with refusals := satInc r.refusals })) := by
  rw [live_next _ _ h.1, request, requestWith_completes h, if_pos hr]

/-! ### The filter's step (R121) -/

/-- A success leaves what a station's probes measured (R116). -/
theorem Station.succeeded_keeps (r : Station) :
    r.succeeded.offset = r.offset ∧ r.succeeded.delay = r.delay ∧ r.succeeded.goodTotal = r.goodTotal := by
  unfold Station.succeeded
  split <;> exact ⟨rfl, rfl, rfl⟩

/-- A good sample in any state filters offset and delay and is counted (R121). -/
theorem Station.sampled_good (r : Station) (depth : Nat) (o d : Int) :
    (r.sampled depth (some (o, d))).offset = (r.filterSample depth o d).offset ∧
      (r.sampled depth (some (o, d))).delay = (r.filterSample depth o d).delay ∧
      (r.sampled depth (some (o, d))).goodTotal = r.goodTotal + 1 := by
  simp only [Station.sampled, Station.readied_keeps]
  by_cases hj : r.state = .joining
  · rw [Station.counted_of_joining hj]
    exact ⟨rfl, rfl, rfl⟩
  · rw [Station.counted_of_not_joining hj]
    exact ⟨rfl, rfl, rfl⟩

/-- The whole signed difference brings an offset to the sample (R121). -/
theorem offset_moved_whole (o y : Int) :
    (o + (y.bmod 4294967296 - o).bmod 4294967296).bmod 4294967296 = y.bmod 4294967296 := by
  rw [Int.add_bmod_bmod, add_sub_cancel, Int.bmod_bmod]

/-- Settles O17: the depth at start and what keeps it by the frames, SET_PROBE by its owner's check, and the good probe by
the filter's step at the depth in force. -/
theorem probeDepthIsALiveSetting : Obligations.ProbeDepthIsALiveSetting := by
  refine ⟨fun s => ⟨⟨_, rfl, startUp_probeDepth s⟩, ⟨_, rfl, startUp_probeDepth s⟩, ?_, ?_⟩, ?_, ?_, ?_⟩
  · rintro hreset ⟨l, x, htx, hreboots, hend⟩
    exact ⟨_, exec_rebootTakesEffect hreset htx hreboots hend, startUp_probeDepth s⟩
  · intro l p t h
    rw [exec_resetShow_pbc h]
  · intro p n s h
    refine (live_request_answered h rfl (oneByte_byte n)).trans (congrArg _ ?_)
    simp only [setProbeOwner, within_eq_true, Nat.zero_le, true_and, plain]
    split <;> rfl
  · intro l p whole s hl h
    have hright : rigOnly l = false := by
      cases l
      · rfl
      · rfl
      · exact absurd rfl hl
    exact live_request_refused h hright oneByte setProbeOwner
  · intro s st tally t2 t3 t4 x o hreset h1 h14 hlen hx hst hframe _ ho hold d sample htrip hhold hd
    obtain ⟨t, hexec, -, hself, -, -, -, -, -, hnow⟩ :=
      exec_probeReply hreset h1 (hlen ▸ h14) hx hst hframe tally t2 t3 t4
    have hgood : ¬ SampleBad x.sendTime t2 t3 t4 := by
      rintro (h | h | h)
      · exact absurd htrip (not_le.mpr h)
      · exact absurd hhold (not_le.mpr h)
      · exact absurd hd (not_le.mpr h)
    have hsample : probeSample x.sendTime t2 t3 t4 = some (sample, d) := probeSample_good hgood
    obtain ⟨hoffset, hdelay, htotal⟩ := Station.succeeded_keeps ((s.station st).tallied tally)
    obtain ⟨hsoffset, hsdelay, hstotal⟩ :=
      Station.sampled_good ((s.station st).tallied tally).succeeded s.pbc.probeDepth sample d
    obtain ⟨hfoffset, hfdelay⟩ := Station.filterSample_later (hoffset.trans ho) s.pbc.probeDepth sample d
    rw [hsample] at hself
    rw [← hself] at hsoffset hsdelay hstotal
    have hmoved := hsoffset.trans hfoffset
    have hstep := hsdelay.trans hfdelay
    rw [hdelay] at hstep
    refine ⟨t, hexec, hstep, hmoved, fun hzero => ?_, hstotal.trans (congrArg (· + 1) htotal), hnow⟩
    rw [hstep, hmoved, hzero, pow_zero, Nat.cast_one, Int.tdiv_one, Int.tdiv_one, offset_moved_whole]
    exact ⟨congrArg Int.toNat (add_sub_cancel ..), rfl⟩

end Sys2Proof.Machine

/-! ## Frames from stations: taken, refused, discarded (R103 to R107, R111, R123) -/

namespace Sys2Proof.Machine

/-! ### What a frame leaves of the bus -/

/-- A frame discarded as a bus error ends the open window as a lost one, and the bus is free 20 µs later (R104 to
R106). -/
theorem discardFrame_pbc (s : State) :
    (discardFrame s).pbc =
      { s.pbc with
        exchange := none, attention := none, freeAt := s.now + 20
        lostWindows := s.pbc.lostWindows ++ s.pbc.exchange.toList, busErrors := s.pbc.busErrors + 1 } := rfl

/-- A station's record after a frame that adds its tally to the loss total (R107). -/
def Station.totalled (tally : Nat) (r : Station) : Station :=
  { r with lossTotal := r.lossTotal + BitVec.ofNat 32 tally, lossCounter := 0, starved := false }

/-- A station's record after a report of it is queued and answered ACK_REPORT (R111, R123). -/
def Station.reportTaken (r : Station) : Station :=
  { r with reportsTaken := r.reportsTaken + 1, framesSent := r.framesSent + 1 }

/-- A station's record after a report of it is answered NAK_REPORT (R111, R123). -/
def Station.reportRefused (r : Station) : Station :=
  { r with refusedReports := satInc r.refusedReports, framesSent := r.framesSent + 1 }

/-- The bus once a report is answered with a frame (R104). -/
def Pbc.answered (st : Nat) (f : OutFrame) (now : Nat) (b : Pbc) : Pbc :=
  { b with lastFrame := some (st, f), exchange := none, attention := none, freeAt := now + f.time + 20 }

theorem tallyWon_pbc (st tally : Nat) (s : State) :
    (tallyWon st tally s).pbc = s.pbc.onStation st (Station.totalled tally) := rfl

/-- A station's tally has no part in whether its report is refused (R111). -/
theorem refusesReport_tallyWon {st : Nat} {s : State} (h1 : 1 ≤ st) (hst : st ≤ s.pbc.stations.length) (tally : Nat)
    (r : Report) : refusesReport (tallyWon st tally s) st r = refusesReport s st r := by
  have hself : (tallyWon st tally s).station st = (s.station st).totalled tally := nth1_upd1_self _ _ _ h1 hst
  simp only [refusesReport, hself]
  rfl

/-- A report that is not refused joins the queue and is answered ACK_REPORT (R111). -/
theorem intakeReport_taken {s : State} {st : Nat} {r : Report} (h : refusesReport s st r = false) :
    (intakeReport st r s).pbc =
      Pbc.answered st .ackReport s.now
        { s.pbc.onStation st Station.reportTaken with reports := s.pbc.reports ++ [(st, r)] } := by
  have htaken : (intakeReport st r s).pbc =
      Pbc.answered st .ackReport s.now
        (({ s.pbc.onStation st fun x => { x with reportsTaken := x.reportsTaken + 1 } with
            reports := s.pbc.reports ++ [(st, r)] } : Pbc).onStation st
          fun x => { x with framesSent := x.framesSent + 1 }) := by
    rw [intakeReport, if_neg (by simp [h])]
    rfl
  rw [htaken]
  simp only [Pbc.onStation, upd1_upd1]
  rfl

/-- A refused report is answered NAK_REPORT, and an unlisted station's JOIN counted on the bus (R111). -/
theorem intakeReport_refused {s : State} {st : Nat} {r : Report} (h : refusesReport s st r = true) :
    ∃ n, (intakeReport st r s).pbc =
      Pbc.answered st .nakReport s.now { s.pbc.onStation st Station.reportRefused with unlistedJoins := n } := by
  have hrefused : ∃ n, (intakeReport st r s).pbc =
      Pbc.answered st .nakReport s.now
        (({ s.pbc.onStation st fun x => { x with refusedReports := satInc x.refusedReports } with
            unlistedJoins := n } : Pbc).onStation st fun x => { x with framesSent := x.framesSent + 1 }) := by
    rw [intakeReport, if_pos h]
    dsimp only
    split
    · exact ⟨satInc s.pbc.unlistedJoins, rfl⟩
    · exact ⟨s.pbc.unlistedJoins, rfl⟩
  obtain ⟨n, hn⟩ := hrefused
  refine ⟨n, ?_⟩
  rw [hn]
  simp only [Pbc.onStation, upd1_upd1]
  rfl

/-- An attention taken in: the record of its station, the report queue and the answer sent; the other stations and the
count of bus errors stay (R107, R111). -/
structure AttentionTaken (st : Nat) (f : OutFrame) (record : Station → Station) (queue : List (Nat × Report))
    (s t : State) : Prop where
  self : t.station st = record (s.station st)
  other : ∀ n, n ≠ st → t.station n = s.station n
  reports : t.pbc.reports = queue
  lastFrame : t.pbc.lastFrame = some (st, f)
  attention : t.pbc.attention = none
  busErrors : t.pbc.busErrors = s.pbc.busErrors

section Intake

variable {s : State} {st : Nat}

theorem AttentionTaken.of_pbc {t : State} {f : OutFrame} {record : Station → Station} {queue : List (Nat × Report)}
    {now : Nat} {joins : Count16} (h1 : 1 ≤ st) (hst : st ≤ s.pbc.stations.length)
    (h : t.pbc = Pbc.answered st f now
      { s.pbc.onStation st record with reports := queue, unlistedJoins := joins }) :
    AttentionTaken st f record queue s t := by
  have hstations : t.pbc.stations = upd1 s.pbc.stations st record := by
    rw [h]
    rfl
  refine ⟨?_, fun n hn => ?_, by rw [h]; rfl, by rw [h]; rfl, by rw [h]; rfl, by rw [h]; rfl⟩
  · rw [State.station, hstations]
    exact nth1_upd1_self _ _ _ h1 hst
  · rw [State.station, hstations]
    exact nth1_upd1_other _ _ _ _ hn

/-- A report that is not refused joins the queue and is answered ACK_REPORT (R111). -/
theorem attention_queued {r : Report} (h1 : 1 ≤ st) (hst : st ≤ s.pbc.stations.length)
    (tally : Nat) (h : refusesReport s st r = false) :
    AttentionTaken st .ackReport (Station.reportTaken ∘ Station.totalled tally) (s.pbc.reports ++ [(st, r)]) s
      (intakeReport st r (tallyWon st tally s)) := by
  have hpbc := intakeReport_taken ((refusesReport_tallyWon h1 hst tally r).trans h)
  rw [tallyWon_pbc, Pbc.onStation_onStation] at hpbc
  exact .of_pbc h1 hst hpbc

/-- A refused report leaves the queue as it is and is answered NAK_REPORT (R111). -/
theorem attention_refused {r : Report} (h1 : 1 ≤ st) (hst : st ≤ s.pbc.stations.length)
    (tally : Nat) (h : refusesReport s st r = true) :
    AttentionTaken st .nakReport (Station.reportRefused ∘ Station.totalled tally) s.pbc.reports s
      (intakeReport st r (tallyWon st tally s)) := by
  obtain ⟨n, hpbc⟩ := intakeReport_refused ((refusesReport_tallyWon h1 hst tally r).trans h)
  rw [tallyWon_pbc, Pbc.onStation_onStation] at hpbc
  exact .of_pbc h1 hst hpbc

end Intake

/-- The intake of a report touches the bus and the notices alone (R111). -/
@[simp] theorem intakeReport_frame (st : Nat) (r : Report) (s : State) :
    (intakeReport st r s).now = s.now ∧ (intakeReport st r s).scu = s.scu ∧ (intakeReport st r s).tmu = s.tmu ∧
      (intakeReport st r s).store = s.store ∧ (intakeReport st r s).cue = s.cue ∧
      (intakeReport st r s).pdu = s.pdu ∧ (intakeReport st r s).clu = s.clu ∧ (intakeReport st r s).vu = s.vu := by
  unfold intakeReport
  dsimp only
  split
  · split <;> simp [raiseUnlisted]
  · simp

/-! ### The fate of a frame (R103 to R105) -/

theorem State.busHeldByOther_iff {s : State} {st : Nat} (h1 : 1 ≤ st) (h14 : st ≤ 14) :
    s.busHeldByOther st = true ↔ ¬ (s.pbc.attention = none ∨ s.pbc.attention = some st) := by
  cases ha : s.pbc.attention <;> simp [State.busHeldByOther, isStation, h1, h14, ha]

/-- The reply frames of a station (R102). -/
def IsReply (st tally : Nat) (i : Instr) : Prop :=
  i = .ack st tally ∨ i = .nak st tally ∨ (∃ a b c, i = .probeReply st tally a b c) ∨ ∃ rep, i = .pollReply st tally rep

/-- With no window open a reply of any kind is late, or cannot be where the bus carries another station's header (R103,
R105; log entry 44). -/
theorem exec_reply_outsideWindow {s : State} {st tally : Nat} {i : Instr} (hreset : s.inReset = false)
    (hx : s.pbc.exchange = none) (h1 : 1 ≤ st) (h14 : st ≤ 14) (hi : IsReply st tally i) :
    exec i s = .next (if s.busHeldByOther st then s else lateReply st s) := by
  have hfate (takes : OutFrame → Bool) :
      replyFate s st takes = if s.busHeldByOther st then .cannotBe else .late := by
    simp [replyFate, hx, isStation, h1, h14]
  obtain rfl | rfl | ⟨a, b, c, rfl⟩ | ⟨rep, rfl⟩ := hi
  · change live (ackStep st tally) s = _
    rw [live_next _ _ hreset, ackStep, hfate]
    cases s.busHeldByOther st <;> rfl
  · change live (nakStep st tally) s = _
    rw [live_next _ _ hreset, nakStep, hfate]
    cases s.busHeldByOther st <;> rfl
  · change live (probeReplyStep st tally a b c) s = _
    rw [live_next _ _ hreset, probeReplyStep, hfate]
    cases s.busHeldByOther st <;> rfl
  · change live (pollReplyStep st tally rep) s = _
    rw [live_next _ _ hreset, pollReplyStep, hfate]
    cases s.busHeldByOther st <;> rfl

/-- A late reply outside a window: what is left of the part (R104, R105). -/
theorem lateReply_eq {s : State} (hx : s.pbc.exchange = none) (st : Nat) :
    lateReply st s = s.onPbc fun b =>
      { b with
        stations := upd1 b.stations st fun k => { k with lateReplies := satInc k.lateReplies }
        attention := none, freeAt := s.now + 20 } := by
  have hclosed : lateReply st s = s.onPbc fun b =>
      { b with
        stations := upd1 b.stations st fun k => { k with lateReplies := satInc k.lateReplies }
        exchange := none, attention := none, freeAt := s.now + 20 } := rfl
  rw [hclosed, ← hx]
  rfl

section Attention

variable {s : State} {st : Nat}

theorem exec_attention_inWindow (hreset : s.inReset = false) (hx : s.pbc.exchange ≠ none) (tally : Nat) (r : Report) :
    exec (.attention st tally r) s = .next (discardFrame s) := by
  change live (attentionStep st tally r) s = _
  rw [live_next _ _ hreset, attentionStep, if_pos (.inl (Option.isSome_iff_ne_none.mpr hx))]

theorem exec_attention (hreset : s.inReset = false) (hx : s.pbc.exchange = none) (h1 : 1 ≤ st) (h14 : st ≤ 14)
    (tally : Nat) (r : Report) :
    exec (.attention st tally r) s =
      .next (if s.busHeldByOther st then s else intakeReport st r (tallyWon st tally s)) := by
  change live (attentionStep st tally r) s = _
  rw [live_next _ _ hreset, attentionStep, if_neg (by simp [hx, isStation, h1, h14])]

end Attention

/-- Settles O56: an attention by whether its report is refused, a discarded frame by what the bus error leaves, a reply by
its fate. -/
theorem stationFramesAreTakenOrDiscarded : Obligations.StationFramesAreTakenOrDiscarded := by
  intro s st tally r hreset h1 h14 hlen refused others error free replies
  have hst : st ≤ s.pbc.stations.length := hlen ▸ h14
  have hdiscard : error (discardFrame s) := by
    have hstation : ∀ n, (discardFrame s).station n = s.station n := State.station_congr (by rw [discardFrame_pbc])
    refine ⟨by rw [discardFrame_pbc], by rw [discardFrame_pbc], (raiseEvent_latched .busError _).1,
      by rw [discardFrame_pbc], hstation st, by rw [discardFrame_pbc], fun n _ _ _ => hstation n, ?_⟩
    simp
  have hnotHeld (hfree : free) : ¬ s.busHeldByOther st = true := fun h =>
    (State.busHeldByOther_iff h1 h14).mp h hfree
  refine ⟨fun hx hfree => ?_, fun hx => ⟨_, exec_attention_inWindow hreset hx tally r, hdiscard⟩,
    ⟨_, live_next discardFrame s hreset, hdiscard⟩, ⟨_, live_next discardFrame s hreset, hdiscard⟩,
    fun hx hfree i hi => ?_, fun hx hheld i hi => ?_⟩
  · rw [exec_attention hreset hx h1 h14, if_neg (hnotHeld hfree)]
    have hrefuses : refusesReport s st r = refused := Bool.or_right_comm ..
    have hothers (hstations : ∀ n, n ≠ st → (intakeReport st r (tallyWon st tally s)).station n = s.station n) :
        others (intakeReport st r (tallyWon st tally s)) := by
      refine ⟨fun n _ _ hn => hstations n hn, ?_⟩
      simp
    obtain hverdict | hverdict := Bool.eq_false_or_eq_true refused
    · obtain ⟨hself, hother, hreports, hlast, hattention, herrors⟩ :=
        attention_refused h1 hst tally (hrefuses.trans hverdict)
      refine ⟨_, rfl, hothers hother, herrors, hattention, ?_, ?_, ?_,
        fun h => absurd (h.symm.trans hverdict) Bool.false_ne_true, fun _ => ⟨hreports, hlast, ?_⟩⟩
      all_goals rw [hself]; rfl
    · obtain ⟨hself, hother, hreports, hlast, hattention, herrors⟩ :=
        attention_queued h1 hst tally (hrefuses.trans hverdict)
      refine ⟨_, rfl, hothers hother, herrors, hattention, ?_, ?_, ?_, fun _ => ⟨hreports, hlast, ?_⟩,
        fun h => absurd (hverdict.symm.trans h) Bool.false_ne_true⟩
      all_goals rw [hself]; rfl
  · rw [exec_reply_outsideWindow hreset hx h1 h14 hi, if_neg (hnotHeld hfree), lateReply_eq hx]
  · have hother := (State.busHeldByOther_iff h1 h14).mpr hheld
    obtain hi | rfl := hi
    · rw [exec_reply_outsideWindow hreset hx h1 h14 hi, if_pos hother]
    · rw [exec_attention hreset hx h1 h14, if_pos hother]

end Sys2Proof.Machine

/-! # Clicks, cameras and feeds: the obligations of 07_click_lanes.md -/

/-! ## A table changed one entry at a time -/

namespace Sys2Proof.Machine

/-- A fold whose step at a number changes that number's entry alone changes each entry of its numbers once, and no
other. `keeps` is what the steps leave as they find it and the change of an entry rests on. -/
theorem foldl_entries {σ α : Type} {read : σ → Nat → α} {step : σ → Nat → σ} {keeps : σ → Prop}
    {change : Nat → α → α → Prop} (hother : ∀ s n m, m ≠ n → read (step s n) m = read s m)
    (hkeeps : ∀ s n, keeps s → keeps (step s n)) {l : List Nat}
    (hself : ∀ s, ∀ n ∈ l, keeps s → change n (read s n) (read (step s n) n)) (hl : l.Nodup) {s : σ} (hs : keeps s)
    (m : Nat) :
    keeps (l.foldl step s) ∧ (m ∈ l → change m (read s m) (read (l.foldl step s) m)) ∧
      (m ∉ l → read (l.foldl step s) m = read s m) := by
  induction l generalizing s with
  | nil => simp [hs]
  | cons n l ih =>
    obtain ⟨hn, hl⟩ := List.nodup_cons.mp hl
    obtain ⟨hrest, hin, hout⟩ := ih (fun s k hk => hself s k (List.mem_cons_of_mem n hk)) hl (hkeeps s n hs)
    refine ⟨hrest, fun hm => ?_, fun hm => ?_⟩
    · obtain rfl | hm := List.mem_cons.mp hm
      · rw [List.foldl_cons, hout hn]
        exact hself s m List.mem_cons_self hs
      · rw [List.foldl_cons, ← hother s n m fun h => hn (h ▸ hm)]
        exact hin hm
    · obtain ⟨hmn, hm⟩ := not_or.mp (List.mem_cons.not.mp hm)
      rw [List.foldl_cons, hout hm, hother s n m hmn]

theorem mem_upTo {n k : Nat} : n ∈ upTo k ↔ 1 ≤ n ∧ n ≤ k := by
  simp only [upTo, List.mem_map, List.mem_range]
  constructor
  · rintro ⟨j, hj, rfl⟩
    omega
  · rintro ⟨h1, hk⟩
    exact ⟨n - 1, by omega, by omega⟩

theorem nodup_upTo (k : Nat) : (upTo k).Nodup := List.nodup_range.map (add_left_injective 1)

theorem mem_maskNumbers {n : Nat} {m : Mask} : n ∈ maskNumbers m ↔ m.getLsbD n = true := by
  simp only [maskNumbers, List.mem_filter, List.mem_range, and_iff_right_iff_imp]
  exact BitVec.lt_of_getLsbD

theorem nodup_maskNumbers (m : Mask) : (maskNumbers m).Nodup := List.nodup_range.filter _

end Sys2Proof.Machine

/-! ## Sounding clicks (R134) -/

namespace Sys2Proof.Machine

theorem soundStep_cons {s : State} {n : Nat} {c : Click} {rest : List Click} (hnow : s.now < timeMax)
    (h : (s.lane n).schedule = c :: rest) :
    soundStep n s =
      if c.time ≤ s.now then s.onLane n fun l => Lane.sound s.now { l with schedule := rest } c else s := by
  simp only [soundStep, h, reached_iff hnow]

theorem burstStep_some {s : State} {n : Nat} {b : Burst} (hnow : s.now < timeMax) (h : (s.lane n).burst = some b) :
    burstStep n s = if b.endTime ≤ s.now then s.onLane n fun l => { l with burst := none } else s := by
  simp only [burstStep, h, reached_iff hnow]

/-- Settles O58: the lane's first click and its burst each wait for a time of their own. -/
theorem clicksSoundAndBurstsEnd : Obligations.ClicksSoundAndBurstsEnd := by
  intro s n hreset hnow
  have hsound : exec (.clickSound n) s = .next (soundStep n s) := live_next _ _ hreset
  have hend : exec (.burstEnd n) s = .next (burstStep n s) := live_next _ _ hreset
  refine ⟨fun c rest h => ⟨fun hdue => ?_, fun hnot => ?_⟩, fun b h => ⟨fun hdue => ?_, fun hnot => ?_⟩⟩
  · rw [hsound, soundStep_cons hnow h, if_pos hdue]
    rfl
  · rw [hsound, soundStep_cons hnow h, if_neg (Nat.not_le.mpr hnot)]
  · rw [hend, burstStep_some hnow h, if_pos hdue]
    rfl
  · rw [hend, burstStep_some hnow h, if_neg (Nat.not_le.mpr hnot)]

end Sys2Proof.Machine

/-! ## The effective offset (R129) -/

namespace Sys2Proof.Machine

/-- The latency that a lane follows (R129; log entry 93). -/
def State.followed (s : State) (n : Nat) : Int :=
  match (s.laneBase n).follow with
  | none => 0
  | some f => ((s.feed f).latency : Int)

theorem offsetSum_eq (s : State) (n : Nat) :
    offsetSum s n = (s.laneBase n).base + (s.lane n).trim + s.followed n := rfl

/-- A sum of base, trim and latency that the clamp holds (R129). -/
def outOfRange (sum : Int) : Bool := decide (sum < 0) || decide (80000 < sum)

/-- A lane's record with its effective offset computed again from a sum (R129). -/
def Lane.offsetBy (sum : Int) (l : Lane) : Lane :=
  { l with
    offset := if sum < 0 then 0 else if 80000 < sum then 80000 else sum.toNat
    clamped := outOfRange sum
    clamps := if outOfRange sum = true ∧ l.clamped = false then satInc l.clamps else l.clamps }

theorem clampNat_offsetMax (sum : Int) :
    clampNat 0 Config.offsetMax sum.toNat = if sum < 0 then 0 else if 80000 < sum then 80000 else sum.toNat := by
  unfold clampNat Config.offsetMax
  split_ifs <;> omega

/-- Computing an offset again changes that lane alone, and raises CLICK_CLAMP where the clamp takes hold. -/
theorem recomputeOffset_eq (n : Nat) (s : State) :
    recomputeOffset n s =
      if outOfRange (offsetSum s n) = true ∧ (s.lane n).clamped = false then
        raiseEvent .clickClamp (s.onLane n (Lane.offsetBy (offsetSum s n)))
      else s.onLane n (Lane.offsetBy (offsetSum s n)) := by
  have hlanes : upd1 s.clu.lanes n (fun l : Lane =>
      { l with
        offset := clampNat 0 Config.offsetMax (offsetSum s n).toNat
        clamped := outOfRange (offsetSum s n)
        clamps := if (outOfRange (offsetSum s n) && !(s.lane n).clamped) = true then satInc l.clamps else l.clamps }) =
      upd1 s.clu.lanes n (Lane.offsetBy (offsetSum s n)) :=
    upd1_congr (by
      simp only [Lane.offsetBy, clampNat_offsetMax, State.lane, Bool.and_eq_true, Bool.not_eq_true'])
  have honLane : s.onLane n (Lane.offsetBy (offsetSum s n)) =
      s.onClu fun c => { c with lanes := upd1 s.clu.lanes n _ } :=
    congrArg (fun lanes => s.onClu fun c => { c with lanes := lanes }) hlanes.symm
  have hcond : (outOfRange (offsetSum s n) = true ∧ (s.lane n).clamped = false) =
      ((outOfRange (offsetSum s n) && !(s.lane n).clamped) = true) := by simp
  simp only [honLane, hcond]
  rfl

theorem recomputeOffset_clu (n : Nat) (s : State) :
    (recomputeOffset n s).clu = (s.onLane n (Lane.offsetBy (offsetSum s n))).clu := by
  rw [recomputeOffset_eq, ite_clu, raiseEvent_clu, ite_self]

theorem recomputeOffset_lane (n m : Nat) (s : State) :
    (recomputeOffset n s).lane m = (s.onLane n (Lane.offsetBy (offsetSum s n))).lane m := by
  rw [State.lane, recomputeOffset_clu, ← State.lane]

/-- Where the clamp takes hold CLICK_CLAMP is latched (R129). -/
theorem recomputeOffset_latched {n : Nat} {s : State} (h : outOfRange (offsetSum s n) = true)
    (hfree : (s.lane n).clamped = false) : (recomputeOffset n s).lku.latched.getLsbD 12 = true := by
  rw [recomputeOffset_eq, if_pos ⟨h, hfree⟩]
  exact (raiseEvent_latched .clickClamp _).1

end Sys2Proof.Machine

/-! ## SET_LANE (R126, R127, R129) -/

namespace Sys2Proof.Machine

/-! ### What SET_LANE carries -/

theorem maskOk_lanes_iff (m : Mask) : maskOk 1 16 m = true ↔ m ≠ 0#16 ∧ m.getLsbD 0 = false := by
  have hwithin : maskWithin 1 16 m = true ↔ m.getLsbD 0 = false := by
    simp only [maskWithin, List.all_eq_true, mem_maskNumbers, Bool.and_eq_true, decide_eq_true_eq]
    constructor
    · intro h
      by_contra h0
      have := h 0 (Bool.eq_true_of_not_eq_false h0)
      omega
    · intro h0 i hi
      have hlt : i < 16 := BitVec.lt_of_getLsbD hi
      have hne : i ≠ 0 := by
        rintro rfl
        exact absurd (h0.symm.trans hi) Bool.false_ne_true
      omega
  simp only [maskOk, Bool.and_eq_true, bne_iff_ne, hwithin]

/-- What SET_LANE carries is in range (R126). -/
theorem setLaneValid_iff (m : Mask) (mute : Option Bool) (trim : Option Int) :
    setLaneValid m (mute.map Bool.toNat) trim = true ↔
      (m ≠ 0#16 ∧ m.getLsbD 0 = false) ∧ (mute.isSome = true ∨ trim.isSome = true) ∧
        ∀ x, trim = some x → -10000 ≤ x ∧ x ≤ 10000 := by
  have hmute : (mute.map Bool.toNat).all (within 0 1) = true := by
    cases mute with
    | none => rfl
    | some b => cases b <;> rfl
  simp only [setLaneValid, hmute, Bool.and_eq_true, Bool.or_eq_true, maskOk_lanes_iff, Option.isSome_map, and_true,
    and_assoc, Option.all_eq_true, decide_eq_true_eq]

/-- A signed value read modulo 2^32 is the value itself, where four bytes can hold it. -/
theorem signed32_emod {x : Int} (hlo : -2147483648 ≤ x) (hhi : x < 2147483648) :
    signed32 ((x % 4294967296).toNat : Nat) = x := by
  rw [signed32, Int.toNat_of_nonneg (Int.emod_nonneg x (by omega))]
  exact (Int.emod_bmod x 4294967296).trans (Int.bmod_eq_of_le (by omega) (by omega))

/-- An optional field of `n` bytes reads back as the bytes that were sent spell it. -/
theorem optField_some {n v : Nat} (hv : v < 256 ^ n) (r : List Byte) :
    optField n (be 1 1 ++ (be n v ++ r)) = some (some v, r) := by
  simp [optField, field_be, Nat.mod_eq_of_lt hv]

theorem optField_none (n : Nat) (r : List Byte) : optField n (be 1 0 ++ r) = some (none, r) := by
  simp [optField, field_be]

/-- An optional field reads back as it was sent, where its bytes hold it. -/
theorem optField_beOpt_of_lt {α : Type} {n : Nat} {f : α → List Byte} {v : α → Nat} (hf : ∀ a, f a = be n (v a))
    (hv : ∀ a, v a < 256 ^ n) (o : Option α) (r : List Byte) :
    optField n (beOpt f o ++ r) = some (o.map v, r) := by
  cases o with
  | none => exact optField_none n r
  | some a => rw [beOpt, hf, List.append_assoc, optField_some (hv a) r, Option.map_some]

theorem laneOperands_bytes (m : Mask) (mute : Option Bool) (trim : Option Int)
    (htrim : ∀ x, trim = some x → -2147483648 ≤ x ∧ x < 2147483648) :
    laneOperands (be 2 m.toNat ++ beOpt beBool mute ++ beOpt (beInt 4) trim) =
      some (m, mute.map Bool.toNat, trim) := by
  have hmask : m.toNat % 256 ^ 2 = m.toNat := Nat.mod_eq_of_lt m.isLt
  have hmute (r : List Byte) := optField_beOpt_of_lt (n := 1) (f := beBool) (v := Bool.toNat) (fun _ => rfl)
    (fun b => by cases b <;> decide) mute r
  have hread := optField_beOpt_of_lt (n := 4) (f := beInt 4) (v := fun x => (x % 4294967296).toNat) (fun _ => rfl)
    (fun x => by omega) trim []
  have hsigned : ((trim.map fun x => (x % 4294967296).toNat).bind fun t : Nat => pure (t : Int)).map
      (fun t => signed32 t) = trim := by
    cases trim with
    | none => rfl
    | some x => exact congrArg some (signed32_emod (htrim x rfl).1 (htrim x rfl).2)
  rw [List.append_nil] at hread
  simp only [laneOperands, List.append_assoc, field_be, hmask, Option.bind_eq_bind, Option.bind_some, hmute, hread,
    whole, BitVec.ofNat_toNat, BitVec.setWidth_eq, hsigned]

/-! ### One lane of the set -/

/-- A lane's record as SET_LANE leaves it, where `sum` gives its offset's sum for a trim (R126, R127, R129). -/
def Lane.settings (mute : Option Bool) (trim : Option Int) (sum : Int → Int) (l : Lane) : Lane :=
  let l := match mute with
    | none => l
    | some b => l.setMute b .live
  match trim with
  | none => l
  | some x => Lane.offsetBy (sum x) { l with trim := x }

/-- What the setting of lanes leaves as it is: every unit but the CLU and the LKU, the hand-overs of the CLU and the
waiting responses. -/
def LanesOnly (s t : State) : Prop :=
  (t.clu.lanes.length = s.clu.lanes.length ∧ t.clu.hands = s.clu.hands ∧ t.answers = s.answers) ∧ t.now = s.now ∧
    t.scu = s.scu ∧ t.tmu = s.tmu ∧ t.store = s.store ∧ t.cue = s.cue ∧ t.pdu = s.pdu ∧ t.pbc = s.pbc ∧ t.vu = s.vu

theorem LanesOnly.refl (s : State) : LanesOnly s s := ⟨⟨rfl, rfl, rfl⟩, rfl, rfl, rfl, rfl, rfl, rfl, rfl, rfl⟩

theorem LanesOnly.trans {s t u : State} (h : LanesOnly s t) (k : LanesOnly t u) : LanesOnly s u := by
  unfold LanesOnly at *
  simp_all

theorem lanesOnly_onLane (n : Nat) (f : Lane → Lane) (s : State) : LanesOnly s (s.onLane n f) :=
  ⟨⟨State.onLane_lanes_length .., rfl, rfl⟩, rfl, rfl, rfl, rfl, rfl, rfl, rfl, rfl⟩

theorem lanesOnly_raiseEvent (c : Cond) (s : State) : LanesOnly s (raiseEvent c s) := by
  simp [LanesOnly]

theorem lanesOnly_recomputeOffset (n : Nat) (s : State) : LanesOnly s (recomputeOffset n s) := by
  rw [recomputeOffset_eq]
  split
  · exact (lanesOnly_onLane n _ s).trans (lanesOnly_raiseEvent _ _)
  · exact lanesOnly_onLane n _ s

theorem lanesOnly_setOneLane (mute : Option Nat) (trim : Option Int) (s : State) (n : Nat) :
    LanesOnly s (setOneLane mute trim s n) := by
  cases mute <;> cases trim
  · exact .refl s
  · exact (lanesOnly_onLane n _ s).trans (lanesOnly_recomputeOffset n _)
  · exact lanesOnly_onLane n _ s
  · exact ((lanesOnly_onLane n _ s).trans (lanesOnly_onLane n _ _)).trans (lanesOnly_recomputeOffset n _)

theorem State.lane_onLane_self {s : State} {n : Nat} (h1 : 1 ≤ n) (hn : n ≤ s.clu.lanes.length) (f : Lane → Lane) :
    (s.onLane n f).lane n = f (s.lane n) := nth1_upd1_self _ _ _ h1 hn

theorem State.lane_onLane_other {m n : Nat} (h : m ≠ n) (s : State) (f : Lane → Lane) :
    (s.onLane n f).lane m = s.lane m := nth1_upd1_other _ _ _ _ h

theorem setOneLane_other {m n : Nat} (h : m ≠ n) (mute : Option Nat) (trim : Option Int) (s : State) :
    (setOneLane mute trim s n).lane m = s.lane m := by
  cases mute <;> cases trim <;> simp only [setOneLane, recomputeOffset_lane, State.lane_onLane_other h]

/-- The offset's sum of a lane for a trim. -/
def State.sumFor (s : State) (n : Nat) (x : Int) : Int := (s.laneBase n).base + x + s.followed n

theorem State.sumFor_congr {s t : State} (hstore : t.store = s.store) (hvu : t.vu = s.vu) : t.sumFor = s.sumFor := by
  unfold State.sumFor State.followed State.laneBase State.feed
  rw [hstore, hvu]

theorem LanesOnly.sumFor {s t : State} (h : LanesOnly s t) : t.sumFor = s.sumFor := by
  obtain ⟨-, -, -, -, hstore, -, -, -, hvu⟩ := h
  exact State.sumFor_congr hstore hvu

theorem recomputeOffset_trimmed {s : State} {n : Nat} (h1 : 1 ≤ n) (hn : n ≤ s.clu.lanes.length) (x : Int) :
    (recomputeOffset n (s.onLane n fun l => { l with trim := x })).lane n =
      Lane.offsetBy (s.sumFor n x) { s.lane n with trim := x } := by
  have hlength : n ≤ (s.onLane n fun l => { l with trim := x }).clu.lanes.length := by
    rwa [State.onLane_lanes_length]
  have hsum : offsetSum (s.onLane n fun l => { l with trim := x }) n = s.sumFor n x := by
    rw [offsetSum_eq, State.lane_onLane_self h1 hn]
    rfl
  rw [recomputeOffset_lane, State.lane_onLane_self h1 hlength, hsum, State.lane_onLane_self h1 hn]

/-- A lane of the set takes the settings. -/
theorem setOneLane_self (mute : Option Bool) (trim : Option Int) {s : State} {n : Nat} (h1 : 1 ≤ n)
    (hn : n ≤ s.clu.lanes.length) :
    (setOneLane (mute.map Bool.toNat) trim s n).lane n = (s.lane n).settings mute trim (s.sumFor n) := by
  have hmute (b : Bool) : (s.onLane n (Lane.setMute (b.toNat == 1) .live)).lane n = (s.lane n).setMute b .live := by
    rw [State.lane_onLane_self h1 hn]
    cases b <;> rfl
  have hsum (b : Bool) := (lanesOnly_onLane n (Lane.setMute (b.toNat == 1) .live) s).sumFor
  have hlength (b : Bool) : n ≤ (s.onLane n (Lane.setMute (b.toNat == 1) .live)).clu.lanes.length := by
    rwa [State.onLane_lanes_length]
  cases mute with
  | none =>
    cases trim with
    | none => rfl
    | some x => exact recomputeOffset_trimmed h1 hn x
  | some b =>
    cases trim with
    | none => exact hmute b
    | some x =>
      refine (recomputeOffset_trimmed h1 (hlength b) x).trans ?_
      rw [hmute, hsum]
      rfl

/-! ### The lanes of the set -/

/-- The owner of SET_LANE sets each lane of the set, and no other. -/
theorem foldl_setOneLane (mute : Option Bool) (trim : Option Int) {m : Mask} (hm : m.getLsbD 0 = false) {s : State}
    (hlanes : s.clu.lanes.length = 16) (n : Nat) :
    let t := (maskNumbers m).foldl (setOneLane (mute.map Bool.toNat) trim) s
    LanesOnly s t ∧ (m.getLsbD n = true → t.lane n = (s.lane n).settings mute trim (s.sumFor n)) ∧
      (m.getLsbD n ≠ true → t.lane n = s.lane n) := by
  have hself (t : State) (k : Nat) (hk : k ∈ maskNumbers m) (ht : LanesOnly s t) :
      (setOneLane (mute.map Bool.toNat) trim t k).lane k = (t.lane k).settings mute trim (s.sumFor k) := by
    have hbit := mem_maskNumbers.mp hk
    have h16 : k < 16 := BitVec.lt_of_getLsbD hbit
    have h1 : k ≠ 0 := by
      rintro rfl
      exact absurd (hm.symm.trans hbit) Bool.false_ne_true
    have hlength : t.clu.lanes.length = 16 := ht.1.1.trans hlanes
    rw [setOneLane_self mute trim (by omega) (by omega), ht.sumFor]
  have hfold := foldl_entries (read := State.lane) (keeps := LanesOnly s)
    (change := fun k l l' => l' = l.settings mute trim (s.sumFor k))
    (fun t k j hj => setOneLane_other hj (mute.map Bool.toNat) trim t)
    (fun t k ht => ht.trans (lanesOnly_setOneLane _ _ t k)) hself (nodup_maskNumbers m) (.refl s) n
  simpa only [mem_maskNumbers] using hfold

theorem exec_setLane {l : Link} {p : List Byte} {m : Mask} {mute : Option Bool} {trim : Option Int} {s u : State}
    {r : Result} (htrim : ∀ x, trim = some x → -2147483648 ≤ x ∧ x < 2147483648)
    (h : Completes l 36 p (be 2 m.toNat ++ beOpt beBool mute ++ beOpt (beInt 4) trim) s)
    (ho : setLaneOwner (m, mute.map Bool.toNat, trim) (taken l s) = (u, r, [])) :
    exec (.setLane l p) s = .next (answer l 36 r [] u) :=
  live_request_of_owner (rights := anyLink) h rfl (laneOperands_bytes m mute trim htrim) ho

theorem setLaneOwner_range {m : Mask} {mute : Option Bool} {trim : Option Int} {s : State}
    (h : m = 0#16 ∨ m.getLsbD 0 = true ∨ (mute = none ∧ trim = none) ∨
      ∃ x, trim = some x ∧ (x < -10000 ∨ 10000 < x)) :
    setLaneOwner (m, mute.map Bool.toNat, trim) s = (s, .range, []) := by
  refine if_neg ?_
  rw [setLaneValid_iff]
  rintro ⟨⟨hm, h0⟩, hsome, hin⟩
  obtain hm' | h0' | ⟨rfl, rfl⟩ | ⟨x, hx, hout⟩ := h
  · exact hm hm'
  · exact absurd (h0.symm.trans h0') Bool.false_ne_true
  · simp at hsome
  · have := hin x hx
    omega

/-- SET_LANE of a set in range is CLAMPED where it leaves a lane of the set clamped (R126, R129). -/
theorem setLaneOwner_sets {m : Mask} {mute : Option Bool} {trim : Option Int} {s : State} (hm : m ≠ 0#16)
    (h0 : m.getLsbD 0 = false) (hsome : mute.isSome = true ∨ trim.isSome = true)
    (hin : ∀ x, trim = some x → -10000 ≤ x ∧ x ≤ 10000) :
    ∃ r, setLaneOwner (m, mute.map Bool.toNat, trim) s =
        ((maskNumbers m).foldl (setOneLane (mute.map Bool.toNat) trim) s, r, []) ∧
      (r = .clamped ↔ ∃ n, m.getLsbD n = true ∧
        (((maskNumbers m).foldl (setOneLane (mute.map Bool.toNat) trim) s).lane n).clamped = true) ∧
      (r = .ok ∨ r = .clamped) := by
  refine ⟨_, if_pos ((setLaneValid_iff m mute trim).mpr ⟨⟨hm, h0⟩, hsome, hin⟩), ?_⟩
  simp only [← mem_maskNumbers, ← List.any_eq_true]
  split
  · next hany => exact ⟨iff_of_true rfl hany, .inr rfl⟩
  · next hany => exact ⟨iff_of_false (by simp) hany, .inl rfl⟩

/-- What the settings make of a lane's record: its mute with source LIVE, a mute dropping its clicks, and its trim with
the offset of its sum (R127, R129). -/
theorem Lane.settings_spec (mute : Option Bool) (trim : Option Int) (sum : Int → Int) (l : Lane) :
    (∀ b, mute = some b → (l.settings mute trim sum).muted = b ∧ (l.settings mute trim sum).source = .live ∧
      (b = true → (l.settings mute trim sum).schedule = [])) ∧
    (mute = none → (l.settings mute trim sum).muted = l.muted ∧ (l.settings mute trim sum).source = l.source) ∧
    (∀ x, trim = some x → (l.settings mute trim sum).trim = x ∧
      (l.settings mute trim sum).offset =
        (if sum x < 0 then 0 else if 80000 < sum x then 80000 else (sum x).toNat) ∧
      (l.settings mute trim sum).clamped = (decide (sum x < 0) || decide (80000 < sum x))) ∧
    (trim = none → (l.settings mute trim sum).trim = l.trim ∧ (l.settings mute trim sum).offset = l.offset) := by
  have hmute (b : Bool) : (l.setMute b .live).muted = b ∧ (l.setMute b .live).source = .live ∧
      (b = true → (l.setMute b .live).schedule = []) ∧ (l.setMute b .live).trim = l.trim ∧
      (l.setMute b .live).offset = l.offset := by
    cases b <;> exact ⟨rfl, rfl, by simp [Lane.setMute, Lane.dropAll], rfl, rfl⟩
  cases mute with
  | none => cases trim <;> simp [Lane.settings, Lane.offsetBy, outOfRange]
  | some b =>
    obtain ⟨hmuted, hsource, hschedule, htrim, hoffset⟩ := hmute b
    cases trim <;> simpa [Lane.settings, Lane.offsetBy, outOfRange, hmuted, hsource, htrim, hoffset] using hschedule

/-- Settles O19: a set, mute or trim out of range leaves the part as taken; every other is set lane by lane. -/
theorem setLaneSetsTheLanesOfItsSet : Obligations.SetLaneSetsTheLanesOfItsSet := by
  refine ⟨fun l p m mute trim s htrim hbad h => exec_setLane htrim h (setLaneOwner_range hbad), ?_⟩
  intro l p m mute trim s hm h0 hsome hin hlanes h sum
  have htrim : ∀ x, trim = some x → -2147483648 ≤ x ∧ x < 2147483648 := by
    intro x hx
    have := hin x hx
    omega
  obtain ⟨r, ho, hclamped, hr⟩ := setLaneOwner_sets (s := taken l s) hm h0 hsome hin
  have hfold (n : Nat) := foldl_setOneLane mute trim h0 (s := taken l s) (by simpa using hlanes) n
  simp only at hfold
  generalize (maskNumbers m).foldl (setOneLane (mute.map Bool.toNat) trim) (taken l s) = u at *
  have hlane (n : Nat) : (answer l 36 r [] u).lane n = u.lane n := by simp [State.lane, answer]
  have hbefore (n : Nat) : (taken l s).lane n = s.lane n := by simp [State.lane]
  have hsum : (taken l s).sumFor = sum := State.sumFor_congr (by simp) (by simp)
  obtain ⟨⟨-, hhands, hanswers⟩, hnow, hscu, htmu, hstore, hcue, hpdu, hpbc, hvu⟩ := (hfold 0).1
  simp only [taken_frame] at hhands hnow hscu htmu hstore hcue hpdu hpbc hvu
  have hresp : (u.lku.link l).responses = (s.lku.link l).responses :=
    (congrFun hanswers l).trans (taken_responses l l s)
  refine ⟨r, _, exec_setLane htrim h ho, respond_answered l 36 r [] false s u hresp hnow, ?_, hr, ?_, ?_, ?_⟩
  · simpa only [hlane] using hclamped
  · intro n _ _ hn
    rw [hlane, (hfold n).2.2 (by simp [hn]), hbefore]
  · intro n _ _ hn
    rw [hlane, (hfold n).2.1 hn, hbefore, hsum]
    exact (s.lane n).settings_spec mute trim (sum n)
  · simp only [answer, respond_frame]
    exact ⟨hhands, hscu, htmu, hstore, hcue, hpdu, hpbc, hvu, hnow⟩

end Sys2Proof.Machine

/-! ## Clicks joining a schedule (R130, R131, R133, R134) -/

namespace Sys2Proof.Machine

theorem insertClick_last {c : Click} {q : List Click} (h : ∀ d ∈ q, d.time < c.time) : insertClick c q = q ++ [c] := by
  induction q with
  | nil => rfl
  | cons d q ih =>
    have hd : d.time < c.time := h d List.mem_cons_self
    rw [insertClick, if_neg (by omega), if_neg (by omega), ih fun e he => h e (List.mem_cons_of_mem d he)]
    rfl

/-- A click of a level above 0 that comes after all others joins a schedule with room for it. -/
theorem Lane.addClick_last {l : Lane} {c : Click} (hlevel : 0 < c.level) (hlast : ∀ d ∈ l.schedule, d.time < c.time)
    (hroom : l.schedule.length < 24) : l.addClick c = { l with schedule := l.schedule ++ [c] } := by
  have hfree : l.schedule.length < Config.scheduleMax := hroom
  simp [Lane.addClick, Nat.ne_of_gt hlevel, hfree, insertClick_last hlast]

/-- Clicks in ascending order after all others join a schedule with room for them, those of level 0 being left out. -/
theorem Lane.foldl_addClick {cs : List Click} (hcs : cs.Pairwise fun c d => c.time < d.time) {l : Lane}
    (hlast : ∀ c ∈ cs, ∀ d ∈ l.schedule, d.time < c.time)
    (hroom : (l.schedule ++ cs.filter fun c => decide (0 < c.level)).length ≤ 24) :
    cs.foldl Lane.addClick l =
      { l with schedule := l.schedule ++ cs.filter fun c => decide (0 < c.level) } := by
  induction cs generalizing l with
  | nil => simp
  | cons c cs ih =>
    obtain ⟨hc, hcs⟩ := List.pairwise_cons.mp hcs
    have hrest : ∀ e ∈ cs, ∀ d ∈ l.schedule, d.time < e.time := fun e he => hlast e (List.mem_cons_of_mem c he)
    rw [List.foldl_cons]
    by_cases hlevel : 0 < c.level
    · rw [List.filter_cons_of_pos (by simpa using hlevel)] at hroom ⊢
      have hfree : l.schedule.length < 24 := by
        rw [List.length_append, List.length_cons] at hroom
        omega
      rw [Lane.addClick_last hlevel (hlast c List.mem_cons_self) hfree, ih hcs]
      · simp
      · intro e he d hd
        obtain hd | hd := List.mem_append.mp hd
        · exact hrest e he d hd
        · exact List.mem_singleton.mp hd ▸ hc e he
      · simpa using hroom
    · rw [List.filter_cons_of_neg (by simpa using hlevel)] at hroom ⊢
      have hleft : l.addClick c = l := if_pos (Nat.eq_zero_of_not_pos hlevel)
      rw [hleft, ih hcs hrest hroom]

/-- In ascending order the clicks that are due come first. -/
theorem due_first {q : List Click} (h : q.Pairwise fun c d => c.time < d.time) (now : Nat) :
    q.takeWhile (fun c => decide (c.time ≤ now)) = q.filter (fun c => decide (c.time ≤ now)) ∧
      q.dropWhile (fun c => decide (c.time ≤ now)) = q.filter fun c => decide (now < c.time) := by
  induction q with
  | nil => exact ⟨rfl, rfl⟩
  | cons c q ih =>
    obtain ⟨hc, hq⟩ := List.pairwise_cons.mp h
    by_cases hdue : c.time ≤ now
    · simpa [hdue, Nat.not_lt.mpr hdue] using ih hq
    · have hlater : ∀ d ∈ q, now < d.time := fun d hd => by
        have := hc d hd
        omega
      have hnone : q.filter (fun d => decide (d.time ≤ now)) = [] :=
        List.filter_eq_nil_iff.mpr fun d hd => by simpa using hlater d hd
      have hall : q.filter (fun d => decide (now < d.time)) = q :=
        List.filter_eq_self.mpr fun d hd => by simpa using hlater d hd
      simp [hdue, Nat.not_le.mp hdue, hnone, hall]

/-- Of clicks that sound in order the last one's burst stands, and each is counted (R134). -/
theorem foldl_sound (now : Nat) (cs : List Click) (l : Lane) :
    cs.foldl (Lane.sound now) l =
      { l with
        burst := (cs.getLast?.map fun c => ⟨c.level, c.accent, now + 10000⟩).or l.burst
        sounded := l.sounded + BitVec.ofNat 32 cs.length } := by
  induction cs using List.reverseRecOn with
  | nil => simp
  | append_singleton cs c ih =>
    have hcount : l.sounded + BitVec.ofNat 32 cs.length + 1#32 = l.sounded + BitVec.ofNat 32 (cs.length + 1) := by
      rw [BitVec.ofNat_add, BitVec.add_assoc]
    simp [ih, Lane.sound, hcount, Config.burstLength]

/-- A lane's record once every click that is due has left the schedule and sounded (R134). -/
def Lane.soundedTo (now : Nat) (all : List Click) (l : Lane) : Lane :=
  { l with
    schedule := all.filter fun c => decide (now < c.time)
    burst := match (all.filter fun c => decide (c.time ≤ now)).getLast? with
      | none => l.burst
      | some c => some ⟨c.level, c.accent, now + 10000⟩
    sounded := l.sounded + BitVec.ofNat 32 (all.filter fun c => decide (c.time ≤ now)).length }

theorem Lane.soundDue_eq {s : State} (hnow : s.now < timeMax) {l : Lane} (h : l.ascending) :
    l.soundDue s = l.soundedTo s.now l.schedule := by
  have hreached : (fun c : Click => reached c.time s) = fun c => decide (c.time ≤ s.now) := by
    funext c
    rw [Bool.eq_iff_iff, reached_iff hnow, decide_eq_true_eq]
  obtain ⟨htake, hdrop⟩ := due_first h s.now
  rw [Lane.soundDue, hreached, htake, hdrop, foldl_sound, Lane.soundedTo]
  cases (l.schedule.filter fun c => decide (c.time ≤ s.now)).getLast? <;> rfl

/-- The clicks that stand before a time, and those of a beat but for level 0 (R130, R131). -/
def Lane.joined (t : Nat) (cs : List Click) (l : Lane) : List Click :=
  (l.dropFrom t).schedule ++ cs.filter fun c => decide (0 < c.level)

/-- The clicks of a beat join what stands before it, and those due sound at once (R130, R131, R133, R134). -/
theorem Lane.takes_clicks {s : State} (hnow : s.now < timeMax) {l : Lane} (hl : l.ascending) {cs : List Click}
    (hcs : cs.Pairwise fun c d => c.time < d.time) {t : Nat} (hfrom : ∀ c ∈ cs, t ≤ c.time)
    (hroom : (l.joined t cs).length ≤ 24) :
    (cs.foldl Lane.addClick (l.dropFrom t)).soundDue s = (l.dropFrom t).soundedTo s.now (l.joined t cs) := by
  have hbefore : ∀ c ∈ cs, ∀ d ∈ (l.dropFrom t).schedule, d.time < c.time := by
    intro c hc d hd
    have hd : d.time < t := by simpa using (List.mem_filter.mp hd).2
    exact hd.trans_le (hfrom c hc)
  rw [Lane.foldl_addClick hcs hbefore hroom, Lane.soundDue_eq hnow]
  · rfl
  · refine List.pairwise_append.mpr ⟨hl.filter _, hcs.filter _, fun d hd c hc => ?_⟩
    exact hbefore c (List.mem_of_mem_filter hc) d hd

end Sys2Proof.Machine

/-! ## A beat on every lane (R127, R130 to R135) -/

namespace Sys2Proof.Machine

/-- Only lanes' records differ. -/
def State.withLanes (lanes : List Lane) (s : State) : State := s.onClu fun c => { c with lanes := lanes }

/-- A part with other lanes' records in a table as long. -/
def OtherLanes (s t : State) : Prop := ∃ lanes, lanes.length = s.clu.lanes.length ∧ t = s.withLanes lanes

theorem otherLanes_scheduleLane {s t : State} (h : OtherLanes s t) (g : GridBeat) (n : Nat) :
    OtherLanes s (scheduleLane g t n) := by
  obtain ⟨lanes, hlength, rfl⟩ := h
  unfold scheduleLane
  split
  · exact ⟨lanes, hlength, rfl⟩
  · exact ⟨_, (length_upd1 ..).trans hlength, rfl⟩

theorem scheduleLane_other {m n : Nat} (h : m ≠ n) (g : GridBeat) (s : State) :
    (scheduleLane g s n).lane m = s.lane m := by
  unfold scheduleLane
  split
  · rfl
  · exact State.lane_onLane_other h s _

/-- A muted lane keeps what it holds; a sounding one takes the beat (R127, R130). -/
theorem scheduleLane_self (g : GridBeat) {s : State} {n : Nat} (h1 : 1 ≤ n) (hn : n ≤ s.clu.lanes.length) :
    (scheduleLane g s n).lane n =
      if (s.lane n).muted then s.lane n
      else ((beatClicks s n g).foldl Lane.addClick ((s.lane n).dropFrom (g.time + (s.lane n).offset))).soundDue s := by
  unfold scheduleLane
  split
  · rfl
  · exact State.lane_onLane_self h1 hn _

/-- What a lane makes of a beat rests on the store, the time and its own record. -/
theorem scheduleLane_self_congr (g : GridBeat) {s t : State} {n : Nat} (h1 : 1 ≤ n) (hn : n ≤ s.clu.lanes.length)
    (hlength : t.clu.lanes.length = s.clu.lanes.length) (hstore : t.store = s.store) (hnow : t.now = s.now)
    (hlane : t.lane n = s.lane n) : (scheduleLane g t n).lane n = (scheduleLane g s n).lane n := by
  have hclicks : beatClicks t n g = beatClicks s n g := by
    simp only [beatClicks, patternInUse, State.laneBase, hlane, hstore]
  have hsound (l : Lane) : l.soundDue t = l.soundDue s := by simp only [Lane.soundDue, reached, hnow]
  rw [scheduleLane_self g h1 hn, scheduleLane_self g h1 (hlength ▸ hn), hlane, hclicks, hsound]

/-- A beat on every lane is a beat on each lane by itself. -/
theorem foldl_scheduleLane (g : GridBeat) {s : State} (hlanes : s.clu.lanes.length = 16) :
    OtherLanes s ((upTo 16).foldl (scheduleLane g) s) ∧ ∀ n, 1 ≤ n → n ≤ 16 →
      ((upTo 16).foldl (scheduleLane g) s).lane n = (scheduleLane g s n).lane n := by
  have hself (t : State) (n : Nat) (hn : n ∈ upTo 16) (ht : OtherLanes s t) :
      t.lane n = s.lane n → (scheduleLane g t n).lane n = (scheduleLane g s n).lane n := by
    obtain ⟨h1, h16⟩ := mem_upTo.mp hn
    obtain ⟨lanes, hlength, rfl⟩ := ht
    exact scheduleLane_self_congr g h1 (hlanes ▸ h16) hlength rfl rfl
  have hfold := foldl_entries (read := State.lane) (keeps := OtherLanes s)
    (change := fun n l l' => l = s.lane n → l' = (scheduleLane g s n).lane n)
    (fun t n m hm => scheduleLane_other hm g t) (fun t n ht => otherLanes_scheduleLane ht g n) hself (nodup_upTo 16)
    ⟨s.clu.lanes, rfl, rfl⟩
  exact ⟨(hfold 0).1, fun n h1 h16 => (hfold n).2.1 (mem_upTo.mpr ⟨h1, h16⟩) rfl⟩

/-! ### The clicks of a beat (R131, R132) -/

theorem LaneBase.level_eq (b : LaneBase) (a : Nat) :
    b.level a = if a = 1 then b.weak else if a = 2 then b.normal else if a = 3 then b.accent else 0 := by
  unfold LaneBase.level
  split <;> simp_all

theorem beatClicks_countIn {s : State} {n : Nat} {g : GridBeat} {d : Place} (hshow : g.showState = .countIn)
    (hd : g.position.place = some d) :
    beatClicks s n g = [⟨g.time + (s.lane n).offset, true, if d.beat = 1 then 3 else 2,
      (s.laneBase n).level (if d.beat = 1 then 3 else 2)⟩] := by
  simp only [beatClicks, hshow, if_true, hd, Option.map_some, Option.getD_some]

theorem beatClicks_running {s : State} {n : Nat} {g : GridBeat} {d : Place} {x : Segment}
    (hshow : g.showState = .running) (hd : g.position.place = some d) (hx : s.store.segmentOf d = some x) :
    let slot := s.store.patterns.getD ((s.lane n).override.getD x.pattern) default
    beatClicks s n g = (List.range (s.laneBase n).subdivision).map fun j =>
      let a := if j = 0 then slot.accents.getD (d.beat - 1) 0 else slot.sub
      ⟨g.time + j * (g.period / (s.laneBase n).subdivision) + (s.lane n).offset, j == 0, a,
        (s.laneBase n).level a⟩ := by
  have hpattern : patternInUse s n g.position = (s.lane n).override.getD x.pattern := by
    unfold patternInUse
    cases (s.lane n).override with
    | none => simp [hd, hx]
    | some k => rfl
  simp only [beatClicks, hshow, reduceCtorEq, if_false, hd, Option.map_some, Option.getD_some, hpattern]

/-- The clicks of a divided beat come in ascending order. -/
theorem pairwise_divided {s p : Nat} (h : s ≤ 1 ∨ 0 < p) {f : Nat → Click} {t e : Nat}
    (hf : ∀ j, (f j).time = t + j * p + e) : ((List.range s).map f).Pairwise fun c d => c.time < d.time := by
  rw [List.pairwise_map]
  refine List.pairwise_lt_range.imp_of_mem fun {i j} _ hj hij => ?_
  have hj : j < s := List.mem_range.mp hj
  rw [hf, hf]
  obtain hs | hp := h
  · omega
  · have := Nat.mul_lt_mul_of_pos_right hij hp
    omega

/-- The CLU takes the delivered beat at its head. -/
theorem exec_clickSchedule {s : State} {g : GridBeat} {rest : List HandOver} (hreset : s.inReset = false)
    (hhands : s.clu.hands = .beat g :: rest) :
    exec .clickSchedule s = .next (takeClu (s.onClu fun c => { c with hands := rest }) (.beat g)) := by
  change live (takeCluHead HandOver.isBeat) s = _
  rw [live_next _ _ hreset, takeCluHead, hhands]
  rfl

theorem takeClu_sounding {g : GridBeat} (h : g.showState = .countIn ∨ g.showState = .running) (s : State) :
    takeClu s (.beat g) = (upTo 16).foldl (scheduleLane g) s := by
  obtain h | h := h <;> simp only [takeClu, h]

theorem takeClu_dark {g : GridBeat} (h : g.showState = .dark) (s : State) :
    takeClu s (.beat g) = s.withLanes (s.clu.lanes.map fun l => l.dropFrom (g.time + l.offset)) := by
  simp only [takeClu, h]
  rfl

theorem State.lane_mem {s : State} {n : Nat} (h1 : 1 ≤ n) (hn : n ≤ s.clu.lanes.length) : s.lane n ∈ s.clu.lanes := by
  obtain ⟨j, rfl⟩ := Nat.exists_eq_add_of_le' h1
  have hj : j < s.clu.lanes.length := hn
  simp [State.lane, nth1, hj]

/-- A sounding lane's record once it has taken a beat's clicks (R130, R133, R134). -/
theorem scheduleLane_joined {s : State} (hnow : s.now < timeMax) {g : GridBeat} {n : Nat} (h1 : 1 ≤ n)
    (hn : n ≤ s.clu.lanes.length) (hasc : (s.lane n).ascending) (hmute : (s.lane n).muted = false)
    {cs : List Click} (hclicks : beatClicks s n g = cs) (hcs : cs.Pairwise fun c d => c.time < d.time)
    (hfrom : ∀ c ∈ cs, g.time + (s.lane n).offset ≤ c.time)
    (hroom : ((s.lane n).joined (g.time + (s.lane n).offset) cs).length ≤ 24) :
    (scheduleLane g s n).lane n = ((s.lane n).dropFrom (g.time + (s.lane n).offset)).soundedTo s.now
      ((s.lane n).joined (g.time + (s.lane n).offset) cs) := by
  rw [scheduleLane_self g h1 hn, hmute, if_neg Bool.false_ne_true, hclicks]
  exact Lane.takes_clicks hnow hasc hcs hfrom hroom

/-- Settles O47: in COUNT_IN and RUNNING each lane takes the beat by itself, and at song end every lane drops. -/
theorem beatSchedulesClicks : Obligations.BeatSchedulesClicks := by
  intro s g rest d hreset hhands hlanes hnow hasc hplace hshow
  by_cases hdark : g.showState = .dark
  · refine ⟨_, exec_clickSchedule hreset hhands, ?_⟩
    rw [takeClu_dark hdark]
    refine ⟨rfl, rfl, rfl, rfl, rfl, rfl, rfl, rfl, rfl, rfl, fun n h1 h16 => ?_⟩
    refine ⟨fun _ => ?_, fun h => absurd hdark h, fun h => ?_, fun h => ?_⟩
    · exact nth1_map (fun l : Lane => l.dropFrom (g.time + l.offset)) h1 (hlanes ▸ h16)
    · simp [hdark] at h
    · simp [hdark] at h
  · have hsounding : g.showState = .countIn ∨ g.showState = .running := by tauto
    have hd := hplace hsounding
    obtain ⟨⟨lanes, hlength, hfold⟩, heach⟩ :=
      foldl_scheduleLane g (s := s.onClu fun c => { c with hands := rest }) hlanes
    refine ⟨_, exec_clickSchedule hreset hhands, ?_⟩
    rw [takeClu_sounding hsounding]
    refine ⟨by rw [hfold]; rfl, by rw [hfold]; rfl, by rw [hfold]; rfl, by rw [hfold]; rfl, by rw [hfold]; rfl,
      by rw [hfold]; rfl, by rw [hfold]; rfl, by rw [hfold]; rfl, by rw [hfold]; rfl, by rw [hfold]; rfl,
      fun n h1 h16 => ?_⟩
    have hn : n ≤ s.clu.lanes.length := hlanes ▸ h16
    have hjoined {cs : List Click} := scheduleLane_joined (g := g) (cs := cs) hnow h1 hn
      (hasc _ (State.lane_mem h1 hn))
    rw [(heach n h1 h16).trans (scheduleLane_self_congr g (s := s) h1 hn rfl rfl rfl rfl)]
    simp only [← LaneBase.level_eq]
    refine ⟨fun h => absurd h hdark, fun _ hmute => ?_, fun hcount hmute hroom => ?_,
      fun hrun hmute slot x hx hslot hdivided hroom => ?_⟩
    · rw [scheduleLane_self g h1 hn]
      exact if_pos hmute
    · exact hjoined hmute (beatClicks_countIn hcount hd) (List.pairwise_singleton ..)
        (fun c hc => (List.mem_singleton.mp hc ▸ Nat.le_refl _)) hroom
    · subst hslot
      refine hjoined hmute (beatClicks_running hrun hd hx) (pairwise_divided hdivided fun j => rfl) ?_ hroom
      intro c hc
      obtain ⟨j, -, rfl⟩ := List.mem_map.mp hc
      exact Nat.add_le_add_right (Nat.le_add_right ..) _

end Sys2Proof.Machine

/-! ## Changes of the feeds (R141, R142, R144, R150) -/

namespace Sys2Proof.Machine

/-- A part with other feed records, other feeds next and another Link Unit. -/
def State.withFeeds (feeds : List Feed) (atOnce : List Nat) (k : Lku) (s : State) : State :=
  (s.onVu fun v => { v with feeds := feeds, atOnce := atOnce }).onLku fun _ => k

/-- Two parts differ in the feeds' records and the Link Unit alone, but for which feeds come next. -/
def FeedsOnly (s t : State) : Prop :=
  ∃ feeds atOnce k, feeds.length = s.vu.feeds.length ∧ t = s.withFeeds feeds atOnce k

theorem FeedsOnly.refl (s : State) : FeedsOnly s s := ⟨s.vu.feeds, s.vu.atOnce, s.lku, rfl, rfl⟩

theorem FeedsOnly.trans {s t u : State} (h : FeedsOnly s t) (k : FeedsOnly t u) : FeedsOnly s u := by
  obtain ⟨feeds, atOnce, lku, hlength, rfl⟩ := h
  obtain ⟨feeds', atOnce', lku', hlength', rfl⟩ := k
  exact ⟨feeds', atOnce', lku', hlength'.trans hlength, rfl⟩

theorem feedsOnly_onFeed (n : Nat) (f : Feed → Feed) (s : State) : FeedsOnly s (s.onFeed n f) :=
  ⟨upd1 s.vu.feeds n f, s.vu.atOnce, s.lku, length_upd1 .., rfl⟩

theorem feedsOnly_onLku (f : Lku → Lku) (s : State) : FeedsOnly s (s.onLku f) :=
  ⟨s.vu.feeds, s.vu.atOnce, f s.lku, rfl, rfl⟩

theorem feedsOnly_atOnce (f : List Nat → List Nat) (s : State) :
    FeedsOnly s (s.onVu fun v => { v with atOnce := f v.atOnce }) :=
  ⟨s.vu.feeds, f s.vu.atOnce, s.lku, rfl, rfl⟩

theorem State.feed_onFeed_self {s : State} {n : Nat} (h1 : 1 ≤ n) (hn : n ≤ s.vu.feeds.length) (f : Feed → Feed) :
    (s.onFeed n f).feed n = f (s.feed n) := nth1_upd1_self _ _ _ h1 hn

theorem State.feed_onFeed_other {m n : Nat} (h : m ≠ n) (s : State) (f : Feed → Feed) :
    (s.onFeed n f).feed m = s.feed m := nth1_upd1_other _ _ _ _ h

/-! ### Beginning a frame (R144, R150) -/

/-- A feed's record as it begins a frame (R144, R150). -/
def Feed.begun (s : State) (pic : FramePicture) (f : Feed) : Feed :=
  let marked := f.measure && f.phase == 0
  { f with
    lastFrame := some ⟨s.now, pic, drawStrip s f, marked⟩
    mark := if marked then some s.now else f.mark
    missed := if marked && f.mark.isSome then satInc f.missed else f.missed
    marks := if marked then f.marks + 1 else f.marks
    phase := if f.measure then (f.phase + 1) % 32 else f.phase }

theorem feedsOnly_beginFrame (n : Nat) (pic : FramePicture) (s : State) : FeedsOnly s (beginFrame n pic s) :=
  (feedsOnly_atOnce (List.filter (· != n)) s).trans (feedsOnly_onFeed n _ _)

theorem beginFrame_self {s : State} {n : Nat} (h1 : 1 ≤ n) (hn : n ≤ s.vu.feeds.length) (pic : FramePicture) :
    (beginFrame n pic s).feed n = (s.feed n).begun s pic := State.feed_onFeed_self h1 hn _

theorem beginFrame_other {m n : Nat} (h : m ≠ n) (pic : FramePicture) (s : State) :
    (beginFrame n pic s).feed m = s.feed m := State.feed_onFeed_other h _ _

/-- A feed's record as it begins a frame of a camera now (R144). -/
def Feed.begunLive (s : State) (c : Podium) (f : Feed) : Feed :=
  { f with picture := some ⟨c, s.now⟩ }.begun s (.camera ⟨c, s.now⟩)

theorem feedsOnly_beginLive (n : Nat) (c : Podium) (s : State) : FeedsOnly s (beginLive n c s) :=
  (feedsOnly_onFeed n _ s).trans (feedsOnly_beginFrame n _ _)

theorem beginLive_self {s : State} {n : Nat} (h1 : 1 ≤ n) (hn : n ≤ s.vu.feeds.length) (c : Podium) :
    (beginLive n c s).feed n = (s.feed n).begunLive s c := by
  have hlength : n ≤ (s.onFeed n fun f => { f with picture := some ⟨c, s.now⟩ }).vu.feeds.length := by
    rwa [State.onFeed_feeds_length]
  rw [beginLive, beginFrame_self h1 hlength, State.feed_onFeed_self h1 hn]
  rfl

theorem beginLive_other {m n : Nat} (h : m ≠ n) (c : Podium) (s : State) : (beginLive n c s).feed m = s.feed m :=
  (beginFrame_other h _ _).trans (State.feed_onFeed_other h _ _)

/-! ### Switching (R142) -/

/-- A feed's record switched to a source (R142). -/
def Feed.switched (src : FeedSource) (dest : Showing) (f : Feed) : Feed :=
  { f with
    source := src
    pending := none
    showing := dest
    before := match f.showing with
      | .cam c => if dest = .cam c then f.before else some c
      | .black => f.before
    switches := f.switches + 1 }

theorem switchFeed_some {s : State} {n : Nat} {src : FeedSource} (h : (s.feed n).pending = some src) :
    switchFeed n s =
      raiseNotice (.videoSwitch n src (s.resolve src)) (s.onFeed n (Feed.switched src (s.resolve src))) := by
  simp only [switchFeed, h]
  rfl

theorem feedsOnly_switchFeed (n : Nat) (s : State) : FeedsOnly s (switchFeed n s) := by
  cases h : (s.feed n).pending with
  | none => simpa only [switchFeed, h] using FeedsOnly.refl s
  | some src =>
    rw [switchFeed_some h]
    exact (feedsOnly_onFeed n _ s).trans (feedsOnly_onLku _ _)

theorem switchFeed_self {s : State} {n : Nat} (h1 : 1 ≤ n) (hn : n ≤ s.vu.feeds.length) {src : FeedSource}
    (h : (s.feed n).pending = some src) : (switchFeed n s).feed n = (s.feed n).switched src (s.resolve src) := by
  rw [switchFeed_some h]
  exact State.feed_onFeed_self h1 hn _

theorem switchFeed_other {m n : Nat} (h : m ≠ n) (s : State) : (switchFeed n s).feed m = s.feed m := by
  cases hp : (s.feed n).pending with
  | none => simp only [switchFeed, hp]
  | some src =>
    rw [switchFeed_some hp]
    exact State.feed_onFeed_other h s _

theorem FeedsOnly.length {s t : State} (h : FeedsOnly s t) : t.vu.feeds.length = s.vu.feeds.length := by
  obtain ⟨feeds, atOnce, k, hlength, rfl⟩ := h
  exact hlength

/-- A frame begun rests on nothing of the feeds but their own record. -/
theorem FeedsOnly.begun {s t : State} (h : FeedsOnly s t) : Feed.begun t = Feed.begun s := by
  obtain ⟨feeds, atOnce, k, -, rfl⟩ := h
  rfl

theorem FeedsOnly.begunLive {s t : State} (h : FeedsOnly s t) : Feed.begunLive t = Feed.begunLive s := by
  obtain ⟨feeds, atOnce, k, -, rfl⟩ := h
  rfl

/-! ### A camera's frame start on a feed (R138, R142, R144) -/

/-- A feed's record after a frame start of a camera (R138, R142, R144). -/
def Feed.frameStart (s : State) (c : Podium) (f : Feed) : Feed :=
  match f.pending with
  | none => if f.showing = .cam c then f.begunLive s c else f
  | some src =>
    if s.resolve src = .cam c then (f.switched src (s.resolve src)).begunLive s c
    else if f.showing = .cam c then
      if s.isLive (s.resolve src) then f.begun s f.heldPicture
      else (f.switched src (s.resolve src)).begun s (f.switched src (s.resolve src)).freePicture
    else f

theorem FeedsOnly.frameStart {s t : State} (h : FeedsOnly s t) : Feed.frameStart t = Feed.frameStart s := by
  obtain ⟨feeds, atOnce, k, -, rfl⟩ := h
  rfl

theorem feedsOnly_feedOnFrameStart (c : Podium) (s : State) (n : Nat) : FeedsOnly s (feedOnFrameStart c s n) := by
  unfold feedOnFrameStart
  dsimp only
  repeat' split
  · exact feedsOnly_beginLive n c s
  · exact .refl s
  · exact (feedsOnly_switchFeed n s).trans (feedsOnly_beginLive n c _)
  · exact feedsOnly_beginFrame n _ s
  · exact (feedsOnly_switchFeed n s).trans (feedsOnly_beginFrame n _ _)
  · exact .refl s

theorem feedOnFrameStart_other {m n : Nat} (h : m ≠ n) (c : Podium) (s : State) :
    (feedOnFrameStart c s n).feed m = s.feed m := by
  unfold feedOnFrameStart
  dsimp only
  repeat' split
  · exact beginLive_other h c s
  · rfl
  · exact (beginLive_other h c _).trans (switchFeed_other h s)
  · exact beginFrame_other h _ s
  · exact (beginFrame_other h _ _).trans (switchFeed_other h s)
  · rfl

theorem feedOnFrameStart_self {s : State} {n : Nat} (h1 : 1 ≤ n) (hn : n ≤ s.vu.feeds.length) (c : Podium) :
    (feedOnFrameStart c s n).feed n = (s.feed n).frameStart s c := by
  have hlength : n ≤ (switchFeed n s).vu.feeds.length := by rwa [(feedsOnly_switchFeed n s).length]
  have hbegun := (feedsOnly_switchFeed n s).begun
  unfold feedOnFrameStart Feed.frameStart
  dsimp only
  cases hp : (s.feed n).pending with
  | none =>
    dsimp only
    split
    · exact beginLive_self h1 hn c
    · rfl
  | some src =>
    have hswitch := switchFeed_self h1 hn hp
    dsimp only
    split_ifs
    · rw [beginLive_self h1 hlength, hswitch, (feedsOnly_switchFeed n s).begunLive]
    · exact beginFrame_self h1 hn _
    · rw [beginFrame_self h1 hlength, hswitch, hbegun]
    · rfl

/-- A frame start on every feed is one on each feed by itself. -/
theorem foldl_feedOnFrameStart (c : Podium) {s : State} (hfeeds : s.vu.feeds.length = 6) :
    FeedsOnly s ((upTo 6).foldl (feedOnFrameStart c) s) ∧ ∀ n, 1 ≤ n → n ≤ 6 →
      ((upTo 6).foldl (feedOnFrameStart c) s).feed n = (s.feed n).frameStart s c := by
  have hself (t : State) (n : Nat) (hn : n ∈ upTo 6) (ht : FeedsOnly s t) :
      (feedOnFrameStart c t n).feed n = (t.feed n).frameStart s c := by
    obtain ⟨h1, h6⟩ := mem_upTo.mp hn
    rw [feedOnFrameStart_self h1 (by rw [ht.length]; omega), ht.frameStart]
  have hfold := foldl_entries (read := State.feed) (keeps := FeedsOnly s)
    (change := fun _ f f' => f' = f.frameStart s c) (fun t n m hm => feedOnFrameStart_other hm c t)
    (fun t n ht => ht.trans (feedsOnly_feedOnFrameStart c t n)) hself (nodup_upTo 6) (.refl s)
  exact ⟨(hfold 0).1, fun n h1 h6 => (hfold n).2.1 (mem_upTo.mpr ⟨h1, h6⟩)⟩

end Sys2Proof.Machine

/-! ## Cameras (R138, R139) -/

namespace Sys2Proof.Machine

theorem feedsOnly_raiseNotice (b : NoticeBody) (s : State) : FeedsOnly s (raiseNotice b s) := feedsOnly_onLku _ s

theorem feedsOnly_setCondition (c : Cond) (v : Bool) (s : State) : FeedsOnly s (setCondition c v s) := by
  unfold setCondition
  split
  · exact .refl s
  · exact (feedsOnly_onLku _ s).trans (feedsOnly_raiseNotice _ _)

theorem setCondition_feeds (c : Cond) (v : Bool) (s : State) : (setCondition c v s).vu.feeds = s.vu.feeds := by
  rw [setCondition_vu]

theorem Camera.isGlitch_iff (k : Camera) (now : Nat) :
    k.isGlitch now = true ↔ ∃ x, k.lastStart = some x ∧ now < x + 10000 := by
  unfold Camera.isGlitch
  cases k.lastStart with
  | none => simp
  | some x =>
    simp only [Option.some.injEq, exists_eq_left']
    exact decide_eq_true_iff

/-- The part with a camera started (R138). -/
def State.camStarted (c : Podium) (s : State) : State := s.onCam c (Camera.start s.now)

theorem State.camStarted_feeds (c : Podium) (s : State) : (s.camStarted c).vu.feeds = s.vu.feeds := by cases c <;> rfl

/-- The part with a camera started, as it goes to the feeds: a return is told (R139). -/
def State.camTold (c : Podium) (s : State) : State :=
  if (s.vu.cam c).live then s.camStarted c else raiseNotice (.videoCamera c true) (sourceCutCondition (s.camStarted c))

theorem feedsOnly_camTold (c : Podium) (s : State) : FeedsOnly (s.camStarted c) (s.camTold c) := by
  unfold State.camTold
  split
  · exact .refl _
  · exact (feedsOnly_setCondition _ _ _).trans (feedsOnly_raiseNotice _ _)

theorem State.camTold_feeds (c : Podium) (s : State) : (s.camTold c).vu.feeds = s.vu.feeds := by
  unfold State.camTold
  split
  · exact State.camStarted_feeds c s
  · exact (setCondition_feeds ..).trans (State.camStarted_feeds c s)

theorem FeedsOnly.cam {s t : State} (h : FeedsOnly s t) (c : Podium) : t.vu.cam c = s.vu.cam c := by
  obtain ⟨feeds, atOnce, k, -, rfl⟩ := h
  cases c <;> rfl

theorem State.camStarted_cam (c d : Podium) (s : State) :
    (s.camStarted c).vu.cam d = if d = c then (s.vu.cam d).start s.now else s.vu.cam d := State.cam_onCam s c d _

theorem State.feed_congr {s t : State} (h : t.vu.feeds = s.vu.feeds) (n : Nat) : t.feed n = s.feed n :=
  congrArg (nth1 · n) h

theorem feedsOnly_framesAtOnce (before s : State) : FeedsOnly s (framesAtOnce before s) :=
  feedsOnly_atOnce (fun _ => _) s

theorem framesAtOnce_feeds (before s : State) : (framesAtOnce before s).vu.feeds = s.vu.feeds := rfl

theorem State.isLive_iff (s : State) (x : Showing) :
    s.isLive x = true ↔ ∃ c, x = .cam c ∧ (s.vu.cam c).live = true := by
  cases x <;> simp [State.isLive]

/-- Another camera than the one that starts is LIVE where it was. -/
theorem State.camStarted_isLive {c : Podium} {x : Showing} (h : x ≠ .cam c) (s : State) :
    (s.camStarted c).isLive x = s.isLive x := by
  cases x with
  | black => rfl
  | cam d =>
    have hd : d ≠ c := fun hd => h (hd ▸ rfl)
    simp only [State.isLive, State.camStarted_cam, if_neg hd]

/-- A frame start that is no glitch leaves the camera as started, and each feed as the frame start leaves it by
itself (R138, R139, R142). -/
theorem exec_cameraFrameStart_taken {c : Podium} {s : State} (hreset : s.inReset = false)
    (h : (s.vu.cam c).isGlitch s.now = false) (hfeeds : s.vu.feeds.length = 6) :
    ∃ t, exec (.cameraFrameStart c) s = .next t ∧ FeedsOnly (s.camStarted c) t ∧
      ∀ n, 1 ≤ n → n ≤ 6 → t.feed n = (s.feed n).frameStart (s.camStarted c) c := by
  have hexec : exec (.cameraFrameStart c) s = .next (frameStartStep c s) := live_next _ _ hreset
  have hstep : frameStartStep c s = framesAtOnce s ((upTo 6).foldl (feedOnFrameStart c) (s.camTold c)) := by
    rw [frameStartStep, h, if_neg Bool.false_ne_true]
    rfl
  obtain ⟨hfold, heach⟩ := foldl_feedOnFrameStart c (s := s.camTold c) (by rw [State.camTold_feeds, hfeeds])
  refine ⟨_, hexec.trans (congrArg _ hstep),
    ((feedsOnly_camTold c s).trans hfold).trans (feedsOnly_framesAtOnce s _), fun n h1 h6 => ?_⟩
  rw [State.feed_congr (framesAtOnce_feeds s _), heach n h1 h6, State.feed_congr (State.camTold_feeds c s),
    (feedsOnly_camTold c s).frameStart]

theorem exec_cameraFrameStart_glitch {c : Podium} {s : State} (hreset : s.inReset = false)
    (h : (s.vu.cam c).isGlitch s.now = true) :
    exec (.cameraFrameStart c) s = .next (s.onCam c fun x => { x with glitches := satInc x.glitches }) := by
  have hexec : exec (.cameraFrameStart c) s = .next (frameStartStep c s) := live_next _ _ hreset
  rw [hexec, frameStartStep, if_pos h]

/-- The part as a camera's cut leaves it (R139). -/
def State.camCut (c : Podium) (s : State) : State := s.onCam c fun x => { x with live := false, cuts := satInc x.cuts }

theorem State.camCut_feeds (c : Podium) (s : State) : (s.camCut c).vu.feeds = s.vu.feeds := by cases c <;> rfl

theorem State.camCut_cam (c d : Podium) (s : State) :
    (s.camCut c).vu.cam d =
      if d = c then { s.vu.cam d with live := false, cuts := satInc (s.vu.cam d).cuts } else s.vu.cam d :=
  State.cam_onCam s c d _

theorem sourceCut_camCut {c : Podium} {s : State} (h : (s.vu.cam c).seen = true) :
    (s.camCut c).vu.sourceCut = true := by
  cases c <;> simp_all [Vu.sourceCut, State.camCut, State.onCam, State.onVu, Vu.cam]

/-- At its cut deadline a LIVE camera is CUT, and a seen one makes SOURCE_CUT true (R139). -/
theorem exec_cameraCut {c : Podium} {s : State} (hreset : s.inReset = false) (hlive : (s.vu.cam c).live = true)
    {x : Nat} (hx : (s.vu.cam c).deadline = some x) (hdue : x ≤ s.now) :
    ∃ t, exec (.cameraCut c) s = .next t ∧ FeedsOnly (s.camCut c) t ∧ t.vu.feeds = s.vu.feeds ∧
      ((s.vu.cam c).seen = true → t.holds .sourceCut = true) := by
  have hexec : exec (.cameraCut c) s = .next (cutStep c s) := live_next _ _ hreset
  have hreached : reachedOpt (s.vu.cam c).deadline s = true := by simp [hx, reachedOpt, reached, hdue]
  have hstep : cutStep c s =
      framesAtOnce s (raiseNotice (.videoCamera c false) (sourceCutCondition (s.camCut c))) :=
    if_pos (by rw [hlive, hreached]; rfl)
  have honly : FeedsOnly (s.camCut c) (raiseNotice (.videoCamera c false) (sourceCutCondition (s.camCut c))) :=
    (feedsOnly_setCondition _ _ _).trans (feedsOnly_raiseNotice _ _)
  refine ⟨_, hexec.trans (congrArg _ hstep), honly.trans (feedsOnly_framesAtOnce s _),
    (setCondition_feeds ..).trans (State.camCut_feeds c s), fun hseen => ?_⟩
  have hholds : (sourceCutCondition (s.camCut c)).holds .sourceCut = true := by
    rw [sourceCutCondition, setCondition_holds, if_pos rfl, sourceCut_camCut hseen]
  exact (raiseNotice_holds ..).trans hholds

end Sys2Proof.Machine

/-! ## A latency handed to the lanes (R129) -/

namespace Sys2Proof.Machine

/-- A lane that is clamped and was not has had CLICK_CLAMP raised, and a latched CLICK_CLAMP stays (R129). -/
def ClampTold (s t : State) : Prop :=
  (∀ n, (t.lane n).clamped = true → (s.lane n).clamped = true ∨ t.lku.latched.getLsbD 12 = true) ∧
    (s.lku.latched.getLsbD 12 = true → t.lku.latched.getLsbD 12 = true)

theorem ClampTold.refl (s : State) : ClampTold s s := ⟨fun _ h => .inl h, id⟩

theorem ClampTold.trans {s t u : State} (h : ClampTold s t) (k : ClampTold t u) : ClampTold s u := by
  refine ⟨fun n hn => ?_, fun hs => k.2 (h.2 hs)⟩
  obtain ht | hu := k.1 n hn
  · exact (h.1 n ht).imp_right k.2
  · exact .inr hu

/-- Raising an event condition, which changes no lane, clears no latched bit. -/
theorem clampTold_raiseEvent (c : Cond) (s : State) : ClampTold s (raiseEvent c s) := by
  refine ⟨fun n h => .inl h, fun h => (raiseNotice_keeps _ _ .stage).1 12 ?_⟩
  simp [State.onLku, Lku.capture, h]

theorem clampTold_recomputeOffset (n : Nat) (s : State) : ClampTold s (recomputeOffset n s) := by
  have hlatched : s.lku.latched.getLsbD 12 = true → (recomputeOffset n s).lku.latched.getLsbD 12 = true := by
    intro h
    rw [recomputeOffset_eq]
    split
    · exact (clampTold_raiseEvent .clickClamp (s.onLane n _)).2 h
    · exact h
  refine ⟨fun m hm => ?_, hlatched⟩
  rw [recomputeOffset_lane, State.lane_onLane] at hm
  split at hm
  · next hself =>
    obtain ⟨rfl, -, -⟩ := hself
    cases hfree : (s.lane m).clamped with
    | true => exact .inl rfl
    | false => exact .inr (recomputeOffset_latched hm hfree)
  · exact .inl hm

/-- A lane's record once the latency of a feed is handed to it (R129). -/
def Lane.handed (s : State) (feed n : Nat) (l : Lane) : Lane :=
  if (s.laneBase n).follow = some feed then l.offsetBy (s.sumFor n l.trim) else l

/-- What a lane makes of the latency of a feed: it takes it where it follows the feed (R129). -/
def takeLatency (feed : Nat) (s : State) (n : Nat) : State :=
  if (s.laneBase n).follow = some feed then recomputeOffset n s else s

theorem handLatency_eq (feed : Nat) (s : State) : handLatency feed s = (upTo 16).foldl (takeLatency feed) s := rfl

theorem takeLatency_keeps (feed : Nat) (s : State) (n : Nat) :
    LanesOnly s (takeLatency feed s n) ∧ ClampTold s (takeLatency feed s n) := by
  unfold takeLatency
  split
  · exact ⟨lanesOnly_recomputeOffset n s, clampTold_recomputeOffset n s⟩
  · exact ⟨.refl s, .refl s⟩

theorem takeLatency_other {m n : Nat} (h : m ≠ n) (feed : Nat) (s : State) :
    (takeLatency feed s n).lane m = s.lane m := by
  unfold takeLatency
  split
  · rw [recomputeOffset_lane, State.lane_onLane_other h]
  · rfl

theorem takeLatency_self {s : State} {n : Nat} (h1 : 1 ≤ n) (hn : n ≤ s.clu.lanes.length) (feed : Nat) :
    (takeLatency feed s n).lane n = (s.lane n).handed s feed n := by
  unfold takeLatency Lane.handed
  split
  · rw [recomputeOffset_lane, State.lane_onLane_self h1 hn]
    rfl
  · rfl

theorem LanesOnly.handed {s t : State} (h : LanesOnly s t) (feed n : Nat) :
    Lane.handed t feed n = Lane.handed s feed n := by
  have hsum := h.sumFor
  obtain ⟨-, -, -, -, hstore, -⟩ := h
  have hbase : t.laneBase n = s.laneBase n := by rw [State.laneBase, hstore, State.laneBase]
  funext l
  rw [Lane.handed, Lane.handed, hbase, hsum]

/-- A feed's latency goes to each lane that follows it, and to no other (R129). -/
theorem handLatency_spec (feed : Nat) (s : State) :
    (LanesOnly s (handLatency feed s) ∧ ClampTold s (handLatency feed s)) ∧
      (s.clu.lanes.length = 16 → ∀ n, 1 ≤ n → n ≤ 16 →
        (handLatency feed s).lane n = (s.lane n).handed s feed n) := by
  have hkeeps (t : State) (n : Nat) (ht : LanesOnly s t ∧ ClampTold s t) :
      LanesOnly s (takeLatency feed t n) ∧ ClampTold s (takeLatency feed t n) :=
    ⟨ht.1.trans (takeLatency_keeps feed t n).1, ht.2.trans (takeLatency_keeps feed t n).2⟩
  have hself (t : State) (n : Nat) (hn : n ∈ upTo 16) (ht : LanesOnly s t ∧ ClampTold s t) :
      s.clu.lanes.length = 16 → (takeLatency feed t n).lane n = (t.lane n).handed s feed n := by
    intro hlanes
    obtain ⟨h1, h16⟩ := mem_upTo.mp hn
    have hlength : t.clu.lanes.length = 16 := ht.1.1.1.trans hlanes
    rw [takeLatency_self h1 (by omega), ht.1.handed]
  have hfold := foldl_entries (read := State.lane)
    (change := fun n l l' => s.clu.lanes.length = 16 → l' = l.handed s feed n)
    (fun t n m hm => takeLatency_other hm feed t) hkeeps hself (nodup_upTo 16) ⟨.refl s, .refl s⟩
  rw [handLatency_eq]
  exact ⟨(hfold 0).1, fun hlanes n h1 h16 => (hfold n).2.1 (mem_upTo.mpr ⟨h1, h16⟩) hlanes⟩

end Sys2Proof.Machine

/-! ## An echo (R150, R151) -/

namespace Sys2Proof.Machine

theorem judgeLatency_vu (n : Nat) (s : State) :
    (judgeLatency n s).vu =
      (s.onFeed n fun f => { f with high := decide ((s.feedBase n).threshold < (s.feed n).latency) }).vu := by
  unfold judgeLatency
  dsimp only
  split
  · next h =>
    have hsame : upd1 s.vu.feeds n (fun f : Feed =>
        { f with high := decide ((s.feedBase n).threshold < (s.feed n).latency) }) = s.vu.feeds :=
      upd1_eq_self (by rw [← h]; rfl)
    exact (congrArg (fun feeds => { s.vu with feeds := feeds }) hsame).symm
  · rw [setCondition_vu]
    rfl

theorem judgeLatency_clu (n : Nat) (s : State) : (judgeLatency n s).clu = s.clu := by simp

/-- Judging a latency raises no event condition, and clears no latched bit. -/
theorem clampTold_judgeLatency (n : Nat) (s : State) : ClampTold s (judgeLatency n s) := by
  refine ⟨fun m hm => .inl ?_, fun h => ?_⟩
  · simpa only [State.lane, judgeLatency_frame] using hm
  · unfold judgeLatency
    dsimp only
    split
    · exact h
    · exact (setCondition_keeps _ _ _ .stage 12).1 ((raiseNotice_keeps _ _ .stage).1 12 h)

/-- The latency of a feed after a sample (R151). -/
def Feed.filtered (depth sample : Nat) (f : Feed) : Nat :=
  if f.loaded then moveTime f.latency (((sample : Int) - f.latency).tdiv (2 ^ depth : Nat)) else sample

/-- A feed's record after a sample, before it is judged (R151). -/
def Feed.sampled (depth sample : Nat) (f : Feed) : Feed :=
  { f with latency := f.filtered depth sample, loaded := true, good := satInc f.good }

/-- The part with a sample in its feed's record, before it is handed to the CLU (R151). -/
def State.withSample (n sample : Nat) (s : State) : State := s.onFeed n (Feed.sampled (s.feedBase n).depth sample)

theorem applySample_eq (n sample : Nat) (s : State) :
    applySample n sample s = judgeLatency n (handLatency n (s.withSample n sample)) := rfl

/-- The offset's sum of a lane that follows a feed takes the feed's latency. -/
theorem State.sumFor_follows {s : State} {n feed : Nat} (h : (s.laneBase n).follow = some feed) (x : Int) :
    s.sumFor n x = (s.laneBase n).base + x + (s.feed feed).latency := by
  simp only [State.sumFor, State.followed, h]

section Sample

variable {n : Nat} {s : State} (h1 : 1 ≤ n) (hn : n ≤ s.vu.feeds.length) (sample : Nat)

include h1 hn

/-- A sample's feed is filtered and judged, and no other (R151). -/
theorem applySample_feed (m : Nat) :
    (applySample n sample s).feed m =
      if m = n then
        { (s.feed n).sampled (s.feedBase n).depth sample with
          high := decide ((s.feedBase n).threshold < (s.feed n).filtered (s.feedBase n).depth sample) }
      else s.feed m := by
  obtain ⟨⟨⟨-, -, -, -, hstore, -, -, -, hvu⟩, -⟩, -⟩ :=
    handLatency_spec n (s.withSample n sample)
  have hfeed (k : Nat) := State.feed_congr (congrArg Vu.feeds hvu) k
  have hgiven : (s.withSample n sample).feed n = (s.feed n).sampled (s.feedBase n).depth sample :=
    State.feed_onFeed_self h1 hn _
  have hlength : n ≤ (handLatency n (s.withSample n sample)).vu.feeds.length := by
    rw [hvu, State.withSample, State.onFeed_feeds_length]
    exact hn
  have hbase : (handLatency n (s.withSample n sample)).feedBase n = s.feedBase n := by
    rw [State.feedBase, hstore]
    rfl
  rw [applySample_eq, State.feed_congr (congrArg Vu.feeds (judgeLatency_vu n _))]
  split
  · next hm =>
    rw [hm, State.feed_onFeed_self h1 hlength, hfeed, hgiven, hbase]
    rfl
  · next hm => rw [State.feed_onFeed_other hm, hfeed, State.withSample, State.feed_onFeed_other hm]

/-- A sample's lanes are those that follow its feed (R129, R151). -/
theorem applySample_lane (hlanes : s.clu.lanes.length = 16) {m : Nat} (hm1 : 1 ≤ m) (hm : m ≤ 16) :
    (applySample n sample s).lane m =
      if (s.laneBase m).follow = some n then
        (s.lane m).offsetBy
          ((s.laneBase m).base + (s.lane m).trim + (s.feed n).filtered (s.feedBase n).depth sample)
      else s.lane m := by
  obtain ⟨-, heach⟩ := handLatency_spec n (s.withSample n sample)
  have hgiven : (s.withSample n sample).feed n = (s.feed n).sampled (s.feedBase n).depth sample :=
    State.feed_onFeed_self h1 hn _
  rw [applySample_eq, State.lane, judgeLatency_clu, ← State.lane, heach hlanes m hm1 hm, Lane.handed]
  by_cases hfollow : (s.laneBase m).follow = some n
  · have hsum := State.sumFor_follows (s := s.withSample n sample) (n := m) hfollow (s.lane m).trim
    rw [hgiven] at hsum
    rw [if_pos hfollow]
    exact (if_pos hfollow).trans (congrArg (Lane.offsetBy · (s.lane m)) hsum)
  · rw [if_neg hfollow]
    exact if_neg hfollow

end Sample

theorem applySample_hands (n sample : Nat) (s : State) : (applySample n sample s).clu.hands = s.clu.hands := by
  obtain ⟨⟨⟨⟨-, hhands, -⟩, -⟩, -⟩, -⟩ := handLatency_spec n (s.withSample n sample)
  rw [applySample_eq, judgeLatency_clu, hhands]
  rfl

theorem clampTold_applySample (n sample : Nat) (s : State) : ClampTold s (applySample n sample s) := by
  obtain ⟨⟨-, htold⟩, -⟩ := handLatency_spec n (s.withSample n sample)
  exact htold.trans (clampTold_judgeLatency n _)

end Sys2Proof.Machine

/-! ## A free-running frame (R142, R144 to R147) -/

namespace Sys2Proof.Machine

/-- A free-running frame is due when the hold period since the last one is over, and the feed shows no LIVE camera
(R144). -/
theorem feedDue_iff {s : State} {n : Nat} (hnow : s.now < timeMax) (h1 : 1 ≤ n) (h6 : n ≤ 6) :
    feedDue s n = true ↔ ¬ s.isLive (s.feed n).showing = true ∧ s.freeRunAt (s.feed n) ≤ s.now := by
  simp [feedDue, h1, h6, reached_iff hnow]

/-- A feed's record once a pending source that is black or a CUT camera is taken (R142). -/
def Feed.turned (s : State) (f : Feed) : Feed :=
  match f.pending with
  | none => f
  | some src => if s.isLive (s.resolve src) then f else f.switched src (s.resolve src)

theorem Feed.turned_none {f : Feed} (h : f.pending = none) (s : State) : f.turned s = f := by
  simp only [Feed.turned, h]

theorem Feed.turned_live {s : State} {f : Feed} {src : FeedSource} (h : f.pending = some src)
    (hlive : s.isLive (s.resolve src) = true) : f.turned s = f := by
  simp only [Feed.turned, h, if_pos hlive]

theorem Feed.turned_switches {s : State} {f : Feed} {src : FeedSource} (h : f.pending = some src)
    (hlive : ¬ s.isLive (s.resolve src) = true) : f.turned s = f.switched src (s.resolve src) := by
  simp only [Feed.turned, h, if_neg hlive]

/-- The feed takes a pending source that is black or a CUT camera (R142). -/
def turnFeed (n : Nat) (s : State) : State :=
  match (s.feed n).pending with
  | none => s
  | some src => if s.isLive (s.resolve src) then s else switchFeed n s

theorem freeRunFrame_eq (n : Nat) (s : State) :
    freeRunFrame n s = beginFrame n ((turnFeed n s).feed n).freePicture (turnFeed n s) := rfl

theorem turnFeed_none {s : State} {n : Nat} (h : (s.feed n).pending = none) : turnFeed n s = s := by
  simp only [turnFeed, h]

theorem turnFeed_live {s : State} {n : Nat} {src : FeedSource} (h : (s.feed n).pending = some src)
    (hlive : s.isLive (s.resolve src) = true) : turnFeed n s = s := by
  simp only [turnFeed, h, if_pos hlive]

theorem turnFeed_switches {s : State} {n : Nat} {src : FeedSource} (h : (s.feed n).pending = some src)
    (hlive : ¬ s.isLive (s.resolve src) = true) : turnFeed n s = switchFeed n s := by
  simp only [turnFeed, h, if_neg hlive]

/-- A turn keeps the feed or switches it. -/
theorem turnFeed_cases (n : Nat) (s : State) :
    turnFeed n s = s ∧ (s.feed n).turned s = s.feed n ∨
      ∃ src, (s.feed n).pending = some src ∧ turnFeed n s = switchFeed n s ∧
        (s.feed n).turned s = (s.feed n).switched src (s.resolve src) := by
  cases hp : (s.feed n).pending with
  | none => exact .inl ⟨turnFeed_none hp, Feed.turned_none hp s⟩
  | some src =>
    by_cases hlive : s.isLive (s.resolve src) = true
    · exact .inl ⟨turnFeed_live hp hlive, Feed.turned_live hp hlive⟩
    · exact .inr ⟨src, rfl, turnFeed_switches hp hlive, Feed.turned_switches hp hlive⟩

theorem feedsOnly_turnFeed (n : Nat) (s : State) : FeedsOnly s (turnFeed n s) := by
  obtain ⟨h, -⟩ | ⟨src, -, h, -⟩ := turnFeed_cases n s
  · rw [h]
    exact .refl s
  · rw [h]
    exact feedsOnly_switchFeed n s

theorem freeRunFrame_other {m n : Nat} (h : m ≠ n) (s : State) : (freeRunFrame n s).feed m = s.feed m := by
  rw [freeRunFrame_eq, beginFrame_other h]
  obtain ⟨ht, -⟩ | ⟨src, -, ht, -⟩ := turnFeed_cases n s
  · rw [ht]
  · rw [ht, switchFeed_other h]

theorem freeRunFrame_self {s : State} {n : Nat} (h1 : 1 ≤ n) (hn : n ≤ s.vu.feeds.length) :
    (freeRunFrame n s).feed n = ((s.feed n).turned s).begun s ((s.feed n).turned s).freePicture := by
  have hlength : n ≤ (turnFeed n s).vu.feeds.length := by rwa [(feedsOnly_turnFeed n s).length]
  have hturned : (turnFeed n s).feed n = (s.feed n).turned s := by
    obtain ⟨ht, hf⟩ | ⟨src, hp, ht, hf⟩ := turnFeed_cases n s
    · rw [ht, hf]
    · rw [ht, hf, switchFeed_self h1 hn hp]
  rw [freeRunFrame_eq, beginFrame_self h1 hlength, (feedsOnly_turnFeed n s).begun, hturned]

theorem freeRunFrame_lku (n : Nat) (s : State) : (freeRunFrame n s).lku = (turnFeed n s).lku := rfl

/-- The frame a feed begins as it turns is drawn for the feed as it stood. -/
theorem Feed.turned_keeps (s : State) (f : Feed) :
    drawStrip s (f.turned s) = drawStrip s f ∧ (f.turned s).measure = f.measure ∧ (f.turned s).phase = f.phase := by
  unfold Feed.turned
  split
  · exact ⟨rfl, rfl, rfl⟩
  · split <;> exact ⟨rfl, rfl, rfl⟩

/-- The frame that a feed of a free-running frame begins (R144, R150). -/
theorem freeRunFrame_lastFrame {s : State} {n : Nat} (h1 : 1 ≤ n) (hn : n ≤ s.vu.feeds.length) :
    ((freeRunFrame n s).feed n).lastFrame =
      some ⟨s.now, ((s.feed n).turned s).freePicture, drawStrip s (s.feed n),
        (s.feed n).measure && (s.feed n).phase == 0⟩ := by
  obtain ⟨hstrip, hmeasure, hphase⟩ := Feed.turned_keeps s (s.feed n)
  rw [freeRunFrame_self h1 hn, ← hstrip, ← hmeasure, ← hphase]
  rfl

theorem Feed.freePicture_eq (f : Feed) :
    f.freePicture = if f.showing = .black then .black else .noPicture f.picture := by
  unfold Feed.freePicture
  cases f.showing <;> simp

/-! ### The strip (R145 to R147) -/

theorem State.flashNow_none {s : State} (h : s.vu.flash = none) : s.flashNow = none := by
  rw [State.flashNow, h, Option.bind_none]

/-- The flash is drawn until its end, on its own beat, and with no delivered beat waiting (R146). -/
theorem State.flashNow_some {s : State} {x : Flash} (h : s.vu.flash = some x) :
    s.flashNow =
      if s.now < x.endTime ∧ s.scu.position.place.map Place.beat = some x.beat ∧
          s.vu.hands.any HandOver.isBeat = false then
        some x.downbeat
      else none := by
  rw [State.flashNow, h, Option.bind_some]
  exact if_congr (and_congr_right fun _ => and_comm) rfl rfl

/-- EXIT is drawn of a vamp segment in RUNNING (R146; log entry 65). -/
theorem State.positionItem_exitShown (s : State) :
    s.positionItem.exitShown =
      (decide (s.scu.showState = .running ∧ s.segment.map Segment.vamp = some true) && s.scu.position.exitArmed) := by
  by_cases h : s.scu.showState = .running ∧ s.segment.map Segment.vamp = some true
  · rw [decide_eq_true h, Bool.true_and]
    exact if_pos h
  · rw [decide_eq_false h, Bool.false_and]
    exact if_neg h

/-- The position item with the place (R146). -/
theorem State.positionItem_place (s : State) :
    (s.scu.showState = .dark ∨ s.scu.showState = .running ∨ s.scu.showState = .hold →
      s.positionItem.place = s.scu.position.place) ∧
    (s.scu.showState = .preparing ∨ s.scu.showState = .armed ∨ s.scu.showState = .countIn →
      s.positionItem.place.map (fun d => (d.song, d.bar, d.beat)) =
        s.scu.armed.map fun a => (a.1, (a.2 : Int), 1)) := by
  have hplace : s.positionItem.place = s.shownPlace := rfl
  rw [hplace, State.shownPlace]
  refine ⟨?_, ?_⟩
  · rintro (h | h | h) <;> rw [h]
  · rintro (h | h | h) <;> rw [h] <;> simp [Option.map_map, Function.comp_def]

end Sys2Proof.Machine

/-! ## Cameras and feeds take their frames -/

namespace Sys2Proof.Machine

section FrameStart

variable {s : State} {c : Podium} {f : Feed} {src : FeedSource}

theorem Feed.frameStart_to (hp : f.pending = some src) (hto : s.resolve src = .cam c) :
    f.frameStart s c = (f.switched src (s.resolve src)).begunLive s c := by
  simp only [Feed.frameStart, hp, if_pos hto]

theorem Feed.frameStart_elsewhere (hp : f.pending = some src) (hto : s.resolve src ≠ .cam c)
    (hfrom : f.showing ≠ .cam c) : f.frameStart s c = f := by
  simp only [Feed.frameStart, hp, if_neg hto, if_neg hfrom]

theorem Feed.frameStart_holds (hp : f.pending = some src) (hto : s.resolve src ≠ .cam c) (hfrom : f.showing = .cam c)
    (hlive : s.isLive (s.resolve src) = true) : f.frameStart s c = f.begun s f.heldPicture := by
  simp only [Feed.frameStart, hp, if_neg hto, if_pos hfrom, if_pos hlive]

theorem Feed.frameStart_leaves (hp : f.pending = some src) (hto : s.resolve src ≠ .cam c) (hfrom : f.showing = .cam c)
    (hlive : ¬ s.isLive (s.resolve src) = true) :
    f.frameStart s c =
      (f.switched src (s.resolve src)).begun s (f.switched src (s.resolve src)).freePicture := by
  simp only [Feed.frameStart, hp, if_neg hto, if_pos hfrom, if_neg hlive]

theorem Feed.frameStart_shown (hp : f.pending = none) (h : f.showing = .cam c) :
    f.frameStart s c = f.begunLive s c := by
  simp only [Feed.frameStart, hp, if_pos h]

theorem Feed.frameStart_unshown (hp : f.pending = none) (h : f.showing ≠ .cam c) : f.frameStart s c = f := by
  simp only [Feed.frameStart, hp, if_neg h]

end FrameStart

/-- What a change of one camera's record and the feeds' leaves as it is. -/
theorem FeedsOnly.blocks {s t : State} {c : Podium} {f : Camera → Camera} (h : FeedsOnly (s.onCam c f) t) :
    t.scu = s.scu ∧ t.tmu = s.tmu ∧ t.store = s.store ∧ t.cue = s.cue ∧ t.pdu = s.pdu ∧ t.pbc = s.pbc ∧
      t.clu = s.clu ∧ t.now = s.now ∧ ∀ other, other ≠ c → t.vu.cam other = s.vu.cam other := by
  have hcam (other : Podium) (hne : other ≠ c) : t.vu.cam other = s.vu.cam other := by
    rw [h.cam, State.cam_onCam, if_neg hne]
  obtain ⟨feeds, atOnce, k, -, rfl⟩ := h
  exact ⟨rfl, rfl, rfl, rfl, rfl, rfl, rfl, rfl, hcam⟩

/-- The part once an echo has ended a feed's outstanding mark (R150). -/
def State.unmarked (n : Nat) (s : State) : State := s.onFeed n fun f => { f with mark := none }

/-- An echo on a feed with an outstanding mark (R150, R151). -/
theorem exec_feedEcho {s : State} {n x : Nat} (hreset : s.inReset = false) (hmark : (s.feed n).mark = some x) :
    exec (.feedEcho n) s = .next
      (if 200000 < s.now - x then
        (s.unmarked n).onFeed n fun f => { f with discarded := satInc f.discarded }
      else applySample n (s.now - x) (s.unmarked n)) := by
  have hexec : exec (.feedEcho n) s = .next (echoStep n s) := live_next _ _ hreset
  rw [hexec, echoStep, hmark]
  rfl

theorem exec_feedEcho_sample {s : State} {n x : Nat} (hreset : s.inReset = false) (hmark : (s.feed n).mark = some x)
    (hx : s.now - x ≤ 200000) :
    exec (.feedEcho n) s = .next (applySample n (s.now - x) (s.unmarked n)) := by
  rw [exec_feedEcho hreset hmark, if_neg (Nat.not_lt.mpr hx)]

theorem exec_feedEcho_unmarked {s : State} {n : Nat} (hreset : s.inReset = false) (hmark : (s.feed n).mark = none) :
    exec (.feedEcho n) s = .next s := by
  have hexec : exec (.feedEcho n) s = .next (echoStep n s) := live_next _ _ hreset
  rw [hexec, echoStep, hmark]

theorem exec_feedFrame {s : State} {n : Nat} (hreset : s.inReset = false) :
    exec (.feedFrame n) s = .next (if feedDue s n then freeRunFrame n s else s) := live_next _ _ hreset

/-- Settles O59: a camera's frame start is taken feed by feed, an echo is a sample for its feed and the lanes that
follow it, and a free-running frame is drawn for the feed as it turns. -/
theorem camerasAndFeedsTakeTheirFrames : Obligations.CamerasAndFeedsTakeTheirFrames := by
  refine ⟨?_, ?_⟩
  · intro s c hreset k glitch blocks
    refine ⟨fun hglitch => ?_, fun hglitch hfeeds => ?_, fun hlive x hx hdue => ?_⟩
    · refine ⟨_, exec_cameraFrameStart_glitch hreset ((Camera.isGlitch_iff ..).mpr hglitch),
        FeedsOnly.blocks (.refl _), rfl, ?_, ?_⟩
      · rw [State.cam_onCam, if_pos rfl]
      · cases c <;> rfl
    · have hfree : k.isGlitch s.now = false := Bool.eq_false_iff.mpr fun h => hglitch ((Camera.isGlitch_iff ..).mp h)
      obtain ⟨t, hexec, honly, heach⟩ := exec_cameraFrameStart_taken hreset hfree hfeeds
      refine ⟨t, hexec, honly.blocks, ?_, fun n h1 h6 hp => ⟨fun hfrom => ?_, fun hfrom => ?_⟩, ?_⟩
      · rw [honly.cam, State.camStarted_cam, if_pos rfl]
        rfl
      · rw [heach n h1 h6, Feed.frameStart_unshown hp hfrom]
      · rw [heach n h1 h6, Feed.frameStart_shown hp hfrom]
        exact ⟨rfl, _, rfl, rfl, rfl, rfl⟩
      · intro n src h1 h6 hp dest away live switched
        refine ⟨fun hto hfrom => ?_, fun hto => ?_, fun haway hlive => ?_, fun haway hlive => ?_⟩
        · rw [heach n h1 h6, Feed.frameStart_elsewhere (s := s.camStarted c) hp hto hfrom]
        · rw [heach n h1 h6, Feed.frameStart_to (s := s.camStarted c) hp hto]
          exact ⟨⟨rfl, rfl, rfl, rfl⟩, rfl, _, rfl, rfl, rfl⟩
        · obtain ⟨hto, hfrom⟩ := haway
          rw [heach n h1 h6, Feed.frameStart_holds (s := s.camStarted c) hp hto hfrom
            ((State.camStarted_isLive hto s).trans ((State.isLive_iff ..).mpr hlive))]
          exact ⟨hp, hfrom, rfl, rfl, _, rfl, rfl, rfl⟩
        · obtain ⟨hto, hfrom⟩ := haway
          rw [heach n h1 h6, Feed.frameStart_leaves (s := s.camStarted c) hp hto hfrom
            fun h => hlive ((State.isLive_iff ..).mp ((State.camStarted_isLive hto s).symm.trans h))]
          exact ⟨⟨rfl, rfl, rfl, rfl⟩, _, rfl, rfl, Feed.freePicture_eq _⟩
    · obtain ⟨t, hexec, honly, hfeeds, hcut⟩ := exec_cameraCut hreset hlive hx hdue
      refine ⟨t, hexec, honly.blocks, ?_, hfeeds, hcut⟩
      rw [honly.cam, State.camCut_cam, if_pos rfl]
  · intro s n hreset h1 h6 hfeeds f blocks
    have hn : n ≤ s.vu.feeds.length := hfeeds ▸ h6
    have hlength : n ≤ (s.unmarked n).vu.feeds.length := by
      rwa [State.unmarked, State.onFeed_feeds_length]
    have hunmarked : (s.unmarked n).feed n = { f with mark := none } :=
      State.feed_onFeed_self h1 hn _
    refine ⟨fun hmark => ?_, fun x hmark hx => ?_, fun hnow => ?_⟩
    · exact exec_feedEcho_unmarked hreset hmark
    · intro sample
      refine ⟨fun hlong => ?_, fun hshort => ⟨_, exec_feedEcho_sample hreset hmark hshort, ?_, ?_⟩⟩
      · rw [exec_feedEcho hreset hmark, if_pos hlong]
        exact congrArg _ (congrArg (fun feeds => s.onVu fun v => { v with feeds := feeds }) (upd1_upd1 ..))
      · refine ⟨by simp [State.unmarked], by simp [State.unmarked], by simp [State.unmarked], by simp [State.unmarked],
          by simp [State.unmarked], by simp [State.unmarked], by simp [State.unmarked], fun m _ _ hm => ?_⟩
        rw [applySample_feed h1 hlength, if_neg hm, State.unmarked, State.feed_onFeed_other hm]
      · intro moved lat
        refine ⟨?_, applySample_hands .., fun hlanes j hj1 hj16 => ?_⟩
        · rw [applySample_feed h1 hlength, if_pos rfl, hunmarked]
          rfl
        · have hlane := applySample_lane h1 hlength sample hlanes hj1 hj16
          rw [hunmarked] at hlane
          intro b sum out hits
          refine ⟨fun hfollow => hlane.trans (if_neg hfollow), fun hfollow => ?_⟩
          have hjoins := hlane.trans (if_pos hfollow)
          refine ⟨fun hhits => ?_, hjoins⟩
          obtain ⟨hout, hfree⟩ := hhits
          obtain hwas | hlatched := (clampTold_applySample n sample _).1 j ((congrArg Lane.clamped hjoins).trans hout)
          · exact absurd (hfree.symm.trans hwas) Bool.false_ne_true
          · exact hlatched
    · intro isLive shown earlier last frameAt has place flash vamp strip
      have hframe : s.freeRunAt f = frameAt := by
        have hlast : (f.lastFrame.map FeedFrame.time).getD 0 = last := by cases h : f.lastFrame <;> simp [last, h]
        have hshown : s.holdPeriod f = shown.getD earlier := by
          cases h : f.showing <;> simp [State.holdPeriod, shown, earlier, h, Config.holdDefault]
        rw [State.freeRunAt, hlast, hshown]
      have hlive (x : Showing) : s.isLive x = true ↔ isLive x := State.isLive_iff s x
      have hdue : feedDue s n = true ↔ ¬ isLive f.showing ∧ frameAt ≤ s.now := by
        rw [feedDue_iff hnow h1 h6, hlive, hframe]
      have hstrip : strip (drawStrip s f) := by
        have hflash : s.flashNow = flash := by
          simp only [flash]
          split
          · next x hx => exact State.flashNow_some hx
          · next hx => exact State.flashNow_none hx
        refine ⟨rfl, rfl, rfl, ?_, rfl, fun hno => if_neg hno, fun hyes =>
          ⟨s.positionItem, if_pos hyes, rfl, hflash, rfl, s.positionItem_exitShown, s.positionItem_place⟩⟩
        rw [← hflash]
        rfl
      rw [exec_feedFrame hreset]
      refine ⟨fun hnot => congrArg _ (if_neg fun h => ?_), fun hcut hreached =>
        ⟨_, congrArg _ (if_pos (hdue.mpr ⟨hcut, hreached⟩)), ?_, by simp, _, freeRunFrame_lastFrame h1 hn, rfl, hstrip,
          rfl, fun hp => ?_, fun src hp => ?_⟩⟩
      · obtain ⟨hcut, hreached⟩ := hdue.mp h
        exact hnot.elim hcut hreached.not_gt
      · exact ⟨by simp, by simp, by simp, by simp, by simp, by simp, by simp,
          fun m _ _ hm => freeRunFrame_other hm s⟩
      · rw [freeRunFrame_self h1 hn, freeRunFrame_lku, turnFeed_none hp, Feed.turned_none hp]
        refine ⟨rfl, rfl, fun hblack => ?_, fun c hc => ?_⟩
        · exact (Feed.freePicture_eq _).trans (if_pos hblack)
        · exact (Feed.freePicture_eq _).trans (if_neg (by rw [hc]; simp))
      · intro dest
        refine ⟨fun hto => ?_, fun hto => ?_⟩
        · have hto : s.isLive (s.resolve src) = true := (hlive dest).mpr hto
          rw [freeRunFrame_self h1 hn, freeRunFrame_lku, turnFeed_live hp hto, Feed.turned_live hp hto]
          exact ⟨hp, rfl, rfl⟩
        · have hto : ¬ s.isLive (s.resolve src) = true := fun h => hto ((hlive dest).mp h)
          rw [freeRunFrame_self h1 hn, freeRunFrame_lku, turnFeed_switches hp hto, Feed.turned_switches hp hto,
            switchFeed_some hp]
          refine ⟨rfl, rfl, rfl, rfl, fun hblack => ?_, fun hcam => ?_, rfl⟩
          · exact (Feed.freePicture_eq _).trans (if_pos hblack)
          · exact (Feed.freePicture_eq _).trans (if_neg hcam)

end Sys2Proof.Machine
